-- ==== Sys2Proof/Word.lean ====
section
/-! DEFINITION. The words of the interface and the small fixed sets of names the spec uses.
Rules: 30_encoding.md R90 (command word), R96 (event word), R98 (symbols); 00_scope.md R14; 60_exceptions.md R260. -/

namespace Sys2Proof

/-- The command word `cw[17:0]` (30_encoding.md R90). -/
abbrev CmdWord := BitVec 18

/-- The event word `ev[36:0]` (30_encoding.md R96). -/
abbrev EventWord := BitVec 37

/-- A symbol: one of the characters `'0'`, `'1'`, `'P'`, `'R'` (00_scope.md R14). -/
inductive Symbol where
  | zero
  | one
  | pos
  | ref
deriving DecidableEq, Repr

/-- A template name (00_scope.md R14). -/
inductive Template where
  | ref
  | pos
  | one
  | zero
deriving DecidableEq, Repr

/-- The symbol a template classifies (00_scope.md R14). -/
def Template.symbol : Template → Symbol
  | .ref => .ref
  | .pos => .pos
  | .one => .one
  | .zero => .zero

/-- The cause of a loss of synchronisation: 1 data symbol mismatch, 2 position marker mismatch
(30_encoding.md R97; 60_exceptions.md R260). Causes 0 and 3 do not occur (93_implementation_defined.md U10). -/
inductive LossCause where
  | dataSymbol
  | positionMarker
deriving DecidableEq, Repr

end Sys2Proof
end

