-- ==== Sys2Proof/Config.lean ====
section
/-! DEFINITION. The configuration of the core (00_scope.md R7, R8), its constraints (R9), the reference values, and the
model's free values (opaque constants, which nothing can evaluate). -/

namespace Sys2Proof

/-- `SAMPLE_W`, the width of an input sample (00_scope.md R7). Fixed by the command word (30_encoding.md R90): log entry 25. -/
def sampleW : Nat := 16

/-- `TPL_BLOCKS`, the 10 ms blocks of a template (00_scope.md R7). -/
def tplBlocks : Nat := 100

/-- `Config`: the parameters of 00_scope.md R7 and R8, under the spec's names. It is installed by `RESET` and never changed by
another operation (log entry 1, DEDUCED). -/
structure Config where
  /-- `FS`, samples per second. -/
  fs : Nat
  /-- `ACT_R`, active blocks of the Reference template. -/
  actR : Nat
  /-- `GAP_R`. -/
  gapR : Nat
  /-- `ACT_P`. -/
  actP : Nat
  /-- `GAP_P`. -/
  gapP : Nat
  /-- `ACT_1`. -/
  act1 : Nat
  /-- `GAP_1`. -/
  gap1 : Nat
  /-- `ACT_0`. -/
  act0 : Nat
  /-- `GAP_0`. -/
  gap0 : Nat
  /-- `TOL_NUM`. -/
  tolNum : Nat
  /-- `TOL_DEN`. -/
  tolDen : Nat
  /-- `DBR_FIRST`, data symbols between `'R'` and the first `'P'`. -/
  dbrFirst : Nat
  /-- `DBR_NEXT`, data symbols after each `'P'`. -/
  dbrNext : Nat
  /-- `PR_INIT`, position markers of a frame. -/
  prInit : Nat
  /-- `YEAR_BASE`. -/
  yearBase : Nat
  /-- `FRAME_CAP`. -/
  frameCap : Nat
  /-- `FRAC`, fraction bits of the accumulators. -/
  frac : Nat
  /-- `DC_SHIFT`. -/
  dcShift : Nat
  /-- `SIG_W`, width of the signed signal word. -/
  sigW : Nat
  /-- `BPF_B[0..BPF_NB]`. -/
  bpfB : List Int
  /-- `BPF_A[1..BPF_NA]`. -/
  bpfA : List Int
  /-- `BPF_FRAC`. -/
  bpfFrac : Nat
  /-- `BPF_ERR`, 8 bits (10_state.md R41, CS7). -/
  bpfErr : BitVec 8
  /-- `ENV1_ATK_SHIFT`. -/
  env1Atk : Nat
  /-- `ENV1_REL_SHIFT`. -/
  env1Rel : Nat
  /-- `TARGET`. -/
  target : Nat
  /-- `ENV_FLOOR`. -/
  envFloor : Nat
  /-- `ENV2_ATK_SHIFT`. -/
  env2Atk : Nat
  /-- `ENV2_REL_SHIFT`. -/
  env2Rel : Nat
  /-- `MAVG_LEN`. -/
  mavgLen : Nat
  /-- `THR_OPEN`. -/
  thrOpen : Nat
  /-- `THR_REL_INIT`. -/
  thrRelInit : Nat
  /-- `THR_REL_MIN`. -/
  thrRelMin : Nat
  /-- `REL_NUM`. -/
  relNum : Nat
  /-- `REL_DEN`. -/
  relDen : Nat
deriving DecidableEq, Repr

/-- `SPB`, samples per 10 ms block (00_scope.md R7). -/
def Config.spb (c : Config) : Nat := c.fs / 100

/-- `TPL_LEN`, samples per template (00_scope.md R7). -/
def Config.tplLen (c : Config) : Nat := tplBlocks * c.spb

/-- `BPF_NB`, the numerator order: `BPF_B` has `BPF_NB + 1` entries. -/
def Config.bpfNB (c : Config) : Nat := c.bpfB.length - 1

/-- `BPF_NA`, the denominator order. -/
def Config.bpfNA (c : Config) : Nat := c.bpfA.length

/-- `ACT_t`, the active blocks of a template (00_scope.md R7). -/
def Config.act (c : Config) : Template → Nat
  | .ref => c.actR
  | .pos => c.actP
  | .one => c.act1
  | .zero => c.act0

/-- `GAP_t`, the inactive blocks of a template (00_scope.md R7). -/
def Config.gap (c : Config) : Template → Nat
  | .ref => c.gapR
  | .pos => c.gapP
  | .one => c.gap1
  | .zero => c.gap0

/-- The symbols a frame holds once `k` position markers and their data groups are complete:
`1 + DBR_FIRST + k * (1 + DBR_NEXT)` (44_window_controller.md R218 with `k = PR_INIT`). -/
def Config.frameLenAfter (c : Config) (k : Nat) : Nat := 1 + c.dbrFirst + k * (1 + c.dbrNext)

/-- The constraints of 00_scope.md R9. `BPF_NB >= 0` is that `BPF_B` has an entry; constraints a natural number meets by being
one are not repeated. R7's sums of block counts are no constraint of R9 (log entry 15), and
R9 does not bound the counts and thresholds by the fixed widths of 10_state.md (log entry 27, DESIGN CHOICE). -/
def Config.valid (c : Config) : Bool :=
  decide (0 < c.fs ∧ c.fs % 100 = 0)
  && decide (c.tolNum ≤ c.tolDen ∧ 0 < c.tolDen)
  && decide (18 ≤ c.sigW)
  && decide (1 ≤ c.envFloor ∧ 1 ≤ c.target ∧ 1 ≤ c.mavgLen)
  && decide (1 ≤ c.thrRelMin ∧ c.thrRelMin ≤ c.thrOpen)
  && decide (c.thrRelMin ≤ c.thrRelInit ∧ c.thrRelInit ≤ c.thrOpen)
  && decide (1 ≤ c.relDen)
  && decide (0 < c.bpfB.length)
  && decide (1 ≤ c.dbrFirst ∧ 1 ≤ c.dbrNext)
  && decide (c.frameLenAfter c.prInit ≤ c.frameCap)

/-- The draws of 41_conditioning.md R145: what the filter computes while `BPF_ERR` is not 0, by draw number; the step clamps a
draw to a signed `SIG_W`-bit value, and every such value is one a draw may have (log entry 5). -/
opaque Config.freeFilterOutput : Nat → Int

/-- The quotient of `NORM` for a divisor 0, a value the spec does not state (00_scope.md R11 says it cannot occur; log entry 12). -/
opaque Config.freeQuotient : Int → Int

/-- What `DECODE` reads at an index its frame does not hold, a value the spec does not state (log entry 13). -/
opaque Config.freeSymbolBit : List Symbol → Nat → Bool

/-- The reference configuration, C8000 of 95_test_vectors.md: the values of 00_scope.md R7, the defaults of R8, and for the
coefficients, which the spec leaves OPEN, its test configuration `BPF_PASS` (log entry 3, DESIGN CHOICE). -/
def Config.reference : Config where
  fs := 8000
  actR := 77
  gapR := 23
  actP := 77
  gapP := 23
  act1 := 47
  gap1 := 53
  act0 := 17
  gap0 := 83
  tolNum := 12
  tolDen := 100
  dbrFirst := 8
  dbrNext := 9
  prInit := 5
  yearBase := 2000
  frameCap := 60
  frac := 8
  dcShift := 8
  sigW := 18
  bpfB := [16384]
  bpfA := []
  bpfFrac := 14
  bpfErr := 0
  env1Atk := 4
  env1Rel := 14
  target := 16384
  envFloor := 64
  env2Atk := 6
  env2Rel := 6
  mavgLen := 8000
  thrOpen := 8192
  thrRelInit := 4096
  thrRelMin := 1
  relNum := 1
  relDen := 1

/-- `BPF_PASS` for the configuration `c` (00_scope.md R8; 41_conditioning.md R146): orders 0, `BPF_B[0] = 2^BPF_FRAC`. -/
def Config.withBpfPass (c : Config) : Config := { c with bpfB := [2 ^ c.bpfFrac], bpfA := [] }

/-- The illustrative coefficients `BPF_EX` of 41_conditioning.md R144. -/
def Config.withBpfEx (c : Config) : Config :=
  { c with bpfFrac := 14, bpfB := [468, 0, -468], bpfA := [-31721, 15448] }

/-- C100 of 95_test_vectors.md: `FS = 100`, `MAVG_LEN = 100`, everything else as the reference configuration. -/
def Config.c100 : Config := { Config.reference with fs := 100, mavgLen := 100 }

end Sys2Proof
end

