-- ==== Sys2Proof/Syntax.lean ====
section
/-! DEFINITION. The operations of the core, one constructor for each row of spec/opcode_table.json (30_encoding.md R100).
The four commands and `RESET` are selected by the host; the others are internal and carry the operands their rules name
(log entry 12, DEDUCED). -/

namespace Sys2Proof

/-- The operations of 30_encoding.md R100. -/
inductive Instr where
  /-- `RESET`, operand the configuration (70_reset_and_hazards.md R290). -/
  | reset (c : Config)
  /-- `NOP` (40_step_and_commands.md R122). -/
  | nop
  /-- `SAMPLE x` (R123), `x` signed 16-bit. -/
  | sample (x : Int)
  /-- `CBIT b` (R124). -/
  | cbit (b : Bool)
  /-- `EOS` (R125). -/
  | eos
  /-- `DCBLOCK(x)` (41_conditioning.md R141), `x` signed 16-bit. -/
  | dcblock (x : Int)
  /-- `BPF(hp)` (R143), `hp` signed `SIG_W`-bit. -/
  | bpf (hp : Int)
  /-- `ENV1(bp)` (R147), `bp` signed `SIG_W`-bit. -/
  | env1 (bp : Int)
  /-- `NORM(bp, lvl)` (R149), `bp` signed `SIG_W`-bit, `lvl >= ENV_FLOOR`. -/
  | norm (bp : Int) (lvl : Nat)
  /-- `ENV2(norm)` (42_detector.md R161), `norm` signed `SIG_W`-bit. -/
  | env2 (norm : Int)
  /-- `MAVG(lev2)` (R163), `lev2` unsigned `SIG_W`-bit. -/
  | mavg (lev2 : Nat)
  /-- `GATE(lev2)` (R165). -/
  | gate (lev2 : Nat)
  /-- `ADAPT(mavg)` (R167). -/
  | adapt (mavg : Nat)
  /-- `TPLGEN` (43_templates_correlator.md R181), operand the configuration in force. -/
  | tplgen
  /-- `MATCH(c, t)` (R184), `c` a bit sequence, `t` a template name. -/
  | matchTpl (c : List Bool) (t : Template)
  /-- `WPUSH(b)` (20_memory.md R63). -/
  | wpush (b : Bool)
  /-- `WPOP(k)` (R64). -/
  | wpop (k : Nat)
  /-- `WSTRIP` (R65). -/
  | wstrip
  /-- `WCLEAR` (R66). -/
  | wclear
  /-- `FPUSH(sym)` (R67). -/
  | fpush (sym : Symbol)
  /-- `FCLEAR` (R68). -/
  | fclear
  /-- `CTL(b)` (44_window_controller.md R201). -/
  | ctl (b : Bool)
  /-- `ACQ` (R203). -/
  | acq
  /-- `DATA` (R209). -/
  | data
  /-- `POS` (R213). -/
  | pos
  /-- `FRAMEDONE` (R216). -/
  | framedone
  /-- `LOSS(cause)` (60_exceptions.md R264). -/
  | loss (cause : LossCause)
  /-- `DECODE(f)` (45_timecode_decode.md R241), `f` a frame of 59 symbols. -/
  | decode (f : List Symbol)
deriving DecidableEq, Repr

end Sys2Proof
end

