-- ==== Sys2Proof/WellFormed.lean ====
section
/-! DEFINITION. When an operation's operands lie in the ranges its rule gives them. The meanings do not depend on these checks
(log entry 12): they say which operands the spec speaks of. -/

namespace Sys2Proof

/-- `v` is a signed `n`-bit value (00_scope.md R10). -/
def fitsSigned (n : Nat) (v : Int) : Bool := decide (-(2 ^ (n - 1) : Int) ≤ v ∧ v < 2 ^ (n - 1))

/-- `v` is an unsigned `n`-bit value (00_scope.md R10). -/
def fitsUnsigned (n : Nat) (v : Nat) : Bool := decide (v < 2 ^ n)

/-- The operand checks of the rules, for the configuration in force. -/
def Instr.wellFormed (c : Config) : Instr → Bool
  | .reset c' => c'.valid
  | .nop => true
  | .sample x => fitsSigned sampleW x
  | .cbit _ => true
  | .eos => true
  | .dcblock x => fitsSigned sampleW x
  | .bpf hp => fitsSigned c.sigW hp
  | .env1 bp => fitsSigned c.sigW bp
  | .norm bp lvl => fitsSigned c.sigW bp && decide (c.envFloor ≤ lvl)
  | .env2 v => fitsSigned c.sigW v
  | .mavg v => fitsUnsigned c.sigW v
  | .gate v => fitsUnsigned c.sigW v
  | .adapt v => fitsUnsigned c.sigW v
  | .tplgen => true
  | .matchTpl _ _ => true
  | .wpush _ => true
  | .wpop _ => true
  | .wstrip => true
  | .wclear => true
  | .fpush _ => true
  | .fclear => true
  | .ctl _ => true
  | .acq => true
  | .data => true
  | .pos => true
  | .framedone => true
  | .loss _ => true
  | .decode f => decide (f.length = 59)

end Sys2Proof
end

