-- ==== Sys2Proof/Decode.lean ====
section
/-! DEFINITION. The decoder of command words, total and with no illegal word (30_encoding.md R90 to R93), and the encoder
(R91, R101). The internal operations and `RESET` have no bit pattern (R94, R100). -/

namespace Sys2Proof

/-- Why a number is no command word. The port is 18 bits wide and every 18-bit word is a command (30_encoding.md R93), so a
number of more than 18 bits is the only thing to reject (log entry 21). -/
inductive DecodeError where
  | widerThan18Bits
deriving DecidableEq, Repr

/-- `sext_16(w)` of 00_scope.md R11. -/
def sext16 (w : BitVec 16) : Int := if w.toNat < 2 ^ 15 then w.toNat else (w.toNat : Int) - 2 ^ 16

/-- `cw[17:16]` (30_encoding.md R90). -/
def cmdField (cw : CmdWord) : BitVec 2 := cw.extractLsb' 16 2

/-- `cw[15:0]` (30_encoding.md R90). -/
def dataField (cw : CmdWord) : BitVec 16 := cw.extractLsb' 0 16

/-- The command a command word is (30_encoding.md R91, R92); the bits a command does not use are ignored (R93). -/
def decodeWord (cw : CmdWord) : Instr :=
  if cmdField cw = 0#2 then .nop
  else if cmdField cw = 1#2 then .sample (sext16 (dataField cw))
  else if cmdField cw = 2#2 then .cbit ((dataField cw).getLsbD 0)
  else .eos

/-- The decoder on any number: total, rejecting by name what does not fit the port. -/
def decode (w : Nat) : Except DecodeError Instr :=
  if w < 2 ^ 18 then .ok (decodeWord (BitVec.ofNat 18 w)) else .error .widerThan18Bits

/-- The 16 data bits of a sample, two's complement (30_encoding.md R101: `int mod 65536`). -/
def sampleData (x : Int) : BitVec 16 := BitVec.ofNat 16 (x % 65536).toNat

/-- `{cmd[1:0], data[15:0]}` (30_encoding.md R90). -/
def commandWord (cmd : BitVec 2) (data : BitVec 16) : CmdWord := cmd ++ data

/-- The command word of an operation, unused bits 0 (30_encoding.md R91, R101). `RESET` is a separate input (R94) and the internal
operations have no bit pattern (R100): none. -/
def encode : Instr → Option CmdWord
  | .reset _ => none
  | .nop => some (commandWord 0#2 0#16)
  | .sample x => some (commandWord 1#2 (sampleData x))
  | .cbit b => some (commandWord 2#2 (if b then 1#16 else 0#16))
  | .eos => some (commandWord 3#2 0#16)
  | .dcblock _ => none
  | .bpf _ => none
  | .env1 _ => none
  | .norm _ _ => none
  | .env2 _ => none
  | .mavg _ => none
  | .gate _ => none
  | .adapt _ => none
  | .tplgen => none
  | .matchTpl _ _ => none
  | .wpush _ => none
  | .wpop _ => none
  | .wstrip => none
  | .wclear => none
  | .fpush _ => none
  | .fclear => none
  | .ctl _ => none
  | .acq => none
  | .data => none
  | .pos => none
  | .framedone => none
  | .loss _ => none
  | .decode _ => none

/-- The bits of a table row as the host numbers them: a command word is one word, bit 0 its least significant. `nbits` is the
row's width in whole bytes; bits above it count as 0. -/
def tableWord (nbits w : Nat) : Nat := w % 2 ^ nbits

/-- What the decoder reads from the bits of an opcode table row. -/
def decodeTableWord (nbits w : Nat) : Option Instr :=
  match decode (tableWord nbits w) with
  | .ok i => some i
  | .error _ => none

end Sys2Proof
end

