-- ==== Sys2Proof/Machine/Operands.lean ====
section
/-! DEFINITION. The arithmetic primitives of 00_scope.md R11, the shared follower of 41_conditioning.md R148, and the operand
computations of the filter. All exact on integers; nothing wraps (R10). Unsigned quantities are natural numbers and signed
ones integers (log entry 2). -/

namespace Sys2Proof.Machine

/-- `asr(a, k) = fdiv(a, 2^k)`: floor division by `2^k` (00_scope.md R11). -/
def asr (a : Int) (k : Nat) : Int := a / 2 ^ k

/-- `rsh(a, k)`: shift right rounding half up (00_scope.md R11). -/
def rsh (a : Int) (k : Nat) : Int := if k = 0 then a else asr (a + 2 ^ (k - 1)) k

/-- `tdiv(a, b)` for `b > 0`: division truncating toward zero (00_scope.md R11). A divisor 0, which the spec says cannot occur,
gives a free value (log entry 12). -/
def tdiv (a : Int) (b : Nat) : Int :=
  if b = 0 then Config.freeQuotient a else if 0 ≤ a then a / b else -((-a) / b)

/-- `sat_N(v)` (00_scope.md R11). -/
def sat (n : Nat) (v : Int) : Int :=
  if v < -(2 ^ (n - 1)) then -(2 ^ (n - 1)) else if v > 2 ^ (n - 1) - 1 then 2 ^ (n - 1) - 1 else v

/-- `asr` and `fdiv` of an unsigned value by `2^k` (00_scope.md R11). -/
def lsr (a k : Nat) : Nat := a / 2 ^ k

/-- `FOLLOW(env, a, atk, rel)` (41_conditioning.md R148). -/
def follow (frac env a atk rel : Nat) : Nat :=
  if a * 2 ^ frac > env then env + lsr (a * 2 ^ frac - env) atk else env - lsr (env - a * 2 ^ frac) rel

/-- The sum of products of two sequences, position by position (the sums of 41_conditioning.md R143). -/
def dot : List Int → List Int → Int
  | a :: as, x :: xs => a * x + dot as xs
  | [], _ => 0
  | _, [] => 0

/-- `drop(k, s)` of 00_scope.md R12 for the leading zeros of a window (20_memory.md R65). -/
def stripZeros : List Bool → List Bool
  | [] => []
  | true :: rest => true :: rest
  | false :: rest => stripZeros rest

end Sys2Proof.Machine
end

