-- ==== Sys2Proof/Machine/Templates.lean ====
section
/-! DEFINITION. The template ROM, its generation and its reads, and the fuzzy correlator as a function
(43_templates_correlator.md R181, R184; 20_memory.md R61). -/

namespace Sys2Proof.Machine

/-- The template ROM `TPL` (10_state.md R37; 20_memory.md R60): four bit sequences. -/
structure Rom where
  ref : List Bool
  pos : List Bool
  one : List Bool
  zero : List Bool
deriving DecidableEq, Repr

/-- `TPL[t]`. -/
def romTemplate (r : Rom) : Template → List Bool
  | .ref => r.ref
  | .pos => r.pos
  | .one => r.one
  | .zero => r.zero

/-- The `TPL_LEN` bits of a template (10_state.md R37): bit `i` is 1 if `i < ACT_t * SPB`, else 0 (43_templates_correlator.md R181). This is
`rep(1, ACT_t * SPB) ++ rep(0, GAP_t * SPB)` where the pair sums to `TPL_BLOCKS`, as R7's pairs do (log entry 15 for other pairs, DEDUCED). -/
def templateBits (c : Config) (t : Template) : List Bool :=
  List.replicate (min (c.act t * c.spb) c.tplLen) true ++ List.replicate (c.tplLen - c.act t * c.spb) false

/-- What `TPLGEN` writes (43_templates_correlator.md R181). -/
def templateRom (c : Config) : Rom where
  ref := templateBits c .ref
  pos := templateBits c .pos
  one := templateBits c .one
  zero := templateBits c .zero

/-- `TplRead(t, i)` (20_memory.md R61); none where the ROM holds no bit `i`, an index that is never generated. -/
def tplRead (r : Rom) (t : Template) (i : Nat) : Option Bool := (romTemplate r t)[i]?

/-- The loop of `MATCH` (43_templates_correlator.md R184) from mismatch count `mm`, with its short circuit. -/
def matchLoop (bound : Nat) : Nat → List Bool → List Bool → Bool
  | mm, x :: xs, y :: ys =>
    if x = y then matchLoop bound mm xs ys
    else if mm + 1 > bound then false
    else matchLoop bound (mm + 1) xs ys
  | _, [], _ => true
  | _, _, [] => true

/-- The tolerance bound `fdiv(TOL_NUM * n, TOL_DEN)` (43_templates_correlator.md R184, R185). -/
def matchBound (c : Config) (n : Nat) : Nat := c.tolNum * n / c.tolDen

/-- `MATCH` of a candidate against a template's bits (43_templates_correlator.md R184). -/
def matchBits (c : Config) (cand tpl : List Bool) : Bool :=
  matchLoop (matchBound c (min cand.length tpl.length)) 0 cand tpl

end Sys2Proof.Machine
end

