-- ==== Sys2Proof/Machine/State.lean ====
section
/-! DEFINITION. The state of one core instance as plain data (10_state.md R20 to R37), the interface of a step, the reasons a
step can stop, and the state after reset (R45). -/

namespace Sys2Proof.Machine

/-- `S.phase` (10_state.md R31). Code 3 is never written and has no constructor (log entry 20). -/
inductive Phase where
  | acquiringFrame
  | awaitingData
  | awaitingPosition
deriving DecidableEq, Repr

/-- What `DECODE` returns (45_timecode_decode.md R240). -/
structure DecodedTime where
  year : Nat
  doy : Nat
  hour : Nat
  minute : Nat
deriving DecidableEq, Repr

/-- An event (30_encoding.md R97). -/
inductive Event where
  | sym (y : Symbol)
  | lock
  | loss (cause : LossCause)
  | time (t : DecodedTime)
  | cfgerr (err : BitVec 8)
  | halt
deriving DecidableEq, Repr

/-- What the host presents at the port in one step: the reset input, with the configuration it is asserted with, and the command
word (30_encoding.md R90, R94, R104). -/
structure PortInput where
  rst : Option Config
  cw : Option CmdWord
deriving DecidableEq, Repr

/-- The values an operation returns to the operations after it in the step (40_step_and_commands.md R121 to R124), and the results of
`MATCH` and `DECODE`. The model's own fields, no state of the core's (10_state.md R20; log entry 6). -/
structure Wires where
  hp : Int
  bp : Int
  lvl : Nat
  norm : Int
  lev2 : Nat
  mavg : Nat
  cbit : Bool
  adapt : Bool
  matched : Bool
  time : DecodedTime
deriving DecidableEq, Repr

/-- All wires 0 (log entry 6, DESIGN CHOICE). -/
def Wires.zero : Wires where
  hp := 0
  bp := 0
  lvl := 0
  norm := 0
  lev2 := 0
  mavg := 0
  cbit := false
  adapt := false
  matched := false
  time := ⟨0, 0, 0, 0⟩

/-- The state. The fields from `dc` to `halted` are `S` (10_state.md R21 to R36). Where a legal configuration gives `thrRel`, `dbr`, `pr` or
the frame's length a value wider than its fixed width (R27, R32, R33, R35), the field holds the exact value (log entry 27, DESIGN CHOICE). -/
structure State where
  /-- `Config` (00_scope.md R7, R8), the parameter of the step function (40_step_and_commands.md R120; log entry 1). -/
  cfg : Config
  /-- The template ROM (10_state.md R37; log entry 14). -/
  rom : Rom
  /-- `S.dc` (R21). -/
  dc : Int
  /-- `S.xh[1..BPF_NB]`, newest first (R22). -/
  xh : List Int
  /-- `S.yh[1..BPF_NA]`, newest first (R22). -/
  yh : List Int
  /-- `S.env1` (R23). -/
  env1 : Nat
  /-- `S.env2` (R24). -/
  env2 : Nat
  /-- `S.mbuf` (R25). -/
  mbuf : List Nat
  /-- `S.mpos` (R25). -/
  mpos : Nat
  /-- `S.msum` (R25). -/
  msum : Nat
  /-- `S.gate` (R26). -/
  gate : Bool
  /-- `S.thr_rel` (R27). -/
  thrRel : Nat
  /-- `S.win`, oldest bit first (R28). -/
  win : List Bool
  /-- `S.phase` (R31). -/
  phase : Phase
  /-- `S.dbr` (R32). -/
  dbr : Nat
  /-- `S.pr` (R33). -/
  pr : Nat
  /-- `S.looking` (R34). -/
  looking : Bool
  /-- `S.frame`, symbol 0 first (R35). -/
  frame : List Symbol
  /-- `S.halted` (R36). -/
  halted : Bool
  /-- What the host presents, next first (log entry 8). -/
  input : List PortInput
  /-- The event list of the step (30_encoding.md R96; log entry 7). -/
  events : List Event
  /-- The model's own: values between operations of a step (log entry 6). -/
  wires : Wires
  /-- The model's own: free filter outputs drawn so far (41_conditioning.md R145; log entry 5). -/
  draws : Nat
  /-- The model's own: a `RESET` has happened (70_reset_and_hazards.md R292; log entry 9). -/
  resetSeen : Bool
deriving DecidableEq, Repr

/-- Accesses to storage that the spec's sizes say does not exist, and a counter below zero. Each is safe: the spec says it cannot
occur (00_scope.md R10; 10_state.md R30, R42), and `Sys2Proof.MachineInv` rules each out. Log entries 10 and 11. -/
inductive Fault where
  /-- `WPUSH` at a window of `TPL_LEN` bits, its capacity (10_state.md R28). Raised by WPUSH, CTL, SAMPLE, CBIT. Safe. -/
  | windowOverflow
  /-- `FPUSH` at a frame of `FRAME_CAP` symbols, its capacity (10_state.md R35). Raised by FPUSH, ACQ, DATA, POS, CTL, SAMPLE, CBIT. Safe. -/
  | frameOverflow
  /-- `MavgSwap` with `S.mpos` outside the ring (10_state.md R25). Raised by MAVG, SAMPLE. Safe. -/
  | ringIndexOutOfRange
  /-- `S.dbr` or `S.pr` decremented at 0, outside the precondition of DATA and POS (44_window_controller.md R209, R213). Raised by
  DATA, POS, CTL, SAMPLE, CBIT. Safe. -/
  | counterUnderflow
deriving DecidableEq, Repr

/-- Situations the spec gives no meaning. -/
inductive Refusal where
  /-- An operation without a meaning in the model: none is left. Safe. -/
  | notModelled (mnemonic : String)
  /-- `RESET` with a configuration outside 00_scope.md R9 (70_reset_and_hazards.md R290; 93_implementation_defined.md U7). Raised by RESET. Safe. -/
  | illegalConfig
  /-- A command before the first `RESET` (70_reset_and_hazards.md R292; 93_implementation_defined.md U8). Raised by the step. Safe. -/
  | commandBeforeReset
deriving DecidableEq, Repr

/-- The machine right after `RESET` with the reference configuration (10_state.md R45; 70_reset_and_hazards.md R290; log entries 3, 4, 16),
nothing presented at the port. -/
def State.reset : State where
  cfg := Config.reference
  rom := templateRom Config.reference
  dc := 0
  xh := List.replicate Config.reference.bpfNB 0
  yh := List.replicate Config.reference.bpfNA 0
  env1 := 0
  env2 := 0
  mbuf := List.replicate Config.reference.mavgLen 0
  mpos := 0
  msum := 0
  gate := false
  thrRel := Config.reference.thrRelInit
  win := []
  phase := .acquiringFrame
  dbr := 0
  pr := 0
  looking := true
  frame := []
  halted := false
  input := []
  events := []
  wires := Wires.zero
  draws := 0
  resetSeen := true

end Sys2Proof.Machine
end

