-- ==== Sys2Proof/Machine/Flags.lean ====
section
/-! DEFINITION. The one-bit status elements and the control fields as the spec codes them (10_state.md R31, R40, R41;
30_encoding.md R98, R99, R104), and the gate law (42_detector.md R165). -/

namespace Sys2Proof.Machine

/-- The new value of `S.gate` for an envelope level (42_detector.md R165). -/
def gateNext (c : Config) (gate : Bool) (thrRel lev2 : Nat) : Bool :=
  if gate then !decide (lev2 < thrRel) else decide (c.thrOpen ≤ lev2)

/-- The release threshold `ADAPT` writes for a moving average (42_detector.md R167). -/
def adaptedThreshold (c : Config) (mavg : Nat) : Nat :=
  min c.thrOpen (max c.thrRelMin (mavg * c.relNum / c.relDen))

/-- The observation output `carrier_bit` (30_encoding.md R104). -/
def carrierBit (s : State) : Bool := s.gate

/-- The observation output `locked` (30_encoding.md R104). -/
def locked (s : State) : Bool := !s.looking

/-- The 2-bit code of a symbol (30_encoding.md R98). -/
def symbolCode : Symbol → BitVec 2
  | .zero => 0#2
  | .one => 1#2
  | .pos => 2#2
  | .ref => 3#2

/-- The ASCII character of a symbol in the trace (30_encoding.md R98). -/
def symbolChar : Symbol → Char
  | .zero => '0'
  | .one => '1'
  | .pos => 'P'
  | .ref => 'R'

/-- The code of a phase (10_state.md R31; 30_encoding.md R99). -/
def phaseCode : Phase → Nat
  | .acquiringFrame => 0
  | .awaitingData => 1
  | .awaitingPosition => 2

/-- The number of a cause of loss (30_encoding.md R97). -/
def lossCode : LossCause → BitVec 2
  | .dataSymbol => 1#2
  | .positionMarker => 2#2

/-- The control and status field of an index CS0 to CS7 (10_state.md R41; the index is no address). -/
def statusField (s : State) : Nat → Option Nat
  | 0 => some (phaseCode s.phase)
  | 1 => some s.dbr
  | 2 => some s.pr
  | 3 => some s.looking.toNat
  | 4 => some s.gate.toNat
  | 5 => some s.thrRel
  | 6 => some s.halted.toNat
  | 7 => some s.cfg.bpfErr.toNat
  | _ => none

end Sys2Proof.Machine
end

