-- ==== Sys2Proof/Machine/Events.lean ====
section
/-! DEFINITION. The event word (30_encoding.md R96, R97), its reading by a consumer (93_implementation_defined.md U10), and the
text a front end writes for events (R103; log entry 19). -/

namespace Sys2Proof.Machine

/-- `{code[2:0], payload[33:0]}` (30_encoding.md R96). -/
def eventWord (code : BitVec 3) (payload : BitVec 34) : EventWord := code ++ payload

/-- The payload of `TIME` (30_encoding.md R97): year 12 bits, day of year 9, hour 6, minute 7. A value wider than its field, which
`DECODE` cannot produce at the reference `YEAR_BASE`, is cut to the field (log entry 18). -/
def timePayload (t : DecodedTime) : BitVec 34 :=
  BitVec.ofNat 12 t.year ++ BitVec.ofNat 9 t.doy ++ BitVec.ofNat 6 t.hour ++ BitVec.ofNat 7 t.minute

/-- The event word of an event (30_encoding.md R97). -/
def encodeEvent : Event → EventWord
  | .sym y => eventWord 1#3 ((symbolCode y).setWidth 34)
  | .lock => eventWord 2#3 0#34
  | .loss cause => eventWord 3#3 ((lossCode cause).setWidth 34)
  | .time t => eventWord 4#3 (timePayload t)
  | .cfgerr err => eventWord 5#3 (err.setWidth 34)
  | .halt => eventWord 6#3 0#34

/-- The symbol of a 2-bit code (30_encoding.md R98). -/
def symbolOfCode (code : BitVec 2) : Symbol :=
  if code = 0#2 then .zero else if code = 1#2 then .one else if code = 2#2 then .pos else .ref

/-- The payload fields of `TIME` read back (30_encoding.md R97). -/
def timeOfPayload (p : BitVec 34) : DecodedTime where
  year := (p.extractLsb' 22 12).toNat
  doy := (p.extractLsb' 13 9).toNat
  hour := (p.extractLsb' 7 6).toNat
  minute := (p.extractLsb' 0 7).toNat

/-- What a consumer reads from an event word; none for the words the core never emits (codes 000 and 111, causes 0 and 3, payload
bits above the fields set; 93_implementation_defined.md U10). -/
def decodeEvent (ev : EventWord) : Option Event :=
  let code := ev.extractLsb' 34 3
  let p := ev.extractLsb' 0 34
  if code = 1#3 then (if p.toNat < 4 then some (.sym (symbolOfCode (p.extractLsb' 0 2))) else none)
  else if code = 2#3 then (if p = 0#34 then some .lock else none)
  else if code = 3#3 then
    (if p = 1#34 then some (.loss .dataSymbol) else if p = 2#34 then some (.loss .positionMarker) else none)
  else if code = 4#3 then some (.time (timeOfPayload p))
  else if code = 5#3 then (if p.toNat < 256 then some (.cfgerr (p.extractLsb' 0 8)) else none)
  else if code = 6#3 then (if p = 0#34 then some .halt else none)
  else none

/-- A decimal number without padding (30_encoding.md R103). -/
def decimal (n : Nat) : List Char := Nat.toDigits 10 n

/-- A minute in decimal, padded with zeros to two digits (30_encoding.md R103). -/
def twoDigits (n : Nat) : List Char := if n < 10 then '0' :: decimal n else decimal n

/-- The text a front end writes for an event, as lines (30_encoding.md R103). That each `SYM` character is a line of its own is the model's
choice: where line breaks fall between symbol characters is in no source (91_not_in_source.md N14; log entry 26, DESIGN CHOICE). The wording for `LOCK`, `LOSS`, `CFGERR` and `HALT` is in no source
(91_not_in_source.md N14): none. -/
def renderEvent : Event → List (List Char)
  | .sym y => [[symbolChar y]]
  | .time t =>
    [ "Date: Day ".toList ++ decimal t.doy ++ " of year ".toList ++ decimal t.year,
      "Time (UTC): ".toList ++ decimal t.hour ++ ":".toList ++ twoDigits t.minute ]
  | .lock => []
  | .loss _ => []
  | .cfgerr _ => []
  | .halt => []

end Sys2Proof.Machine
end

