-- ==== Sys2Proof/Machine/Ops.lean ====
section
/-! DEFINITION. The shared operations: sequencing, the event list, the window, the frame, the moving-average ring, the correlator on
the window, the loss of synchronisation (the core's one exceptional entry), the reset of every state element, and the port. -/

namespace Sys2Proof.Machine

/-- The next operation of a step, on the state the previous one left; a stop ends the step. -/
def andThen (r : Host.Outcome State Fault Refusal) (k : State → Host.Outcome State Fault Refusal) :
    Host.Outcome State Fault Refusal :=
  match r with
  | .next s => k s
  | .fault f => .fault f
  | .refused q => .refused q

/-! ## The event list -/

/-- The event list of a step is empty when the step begins (40_step_and_commands.md R120; log entry 7). -/
def beginStep (s : State) : State := { s with events := [] }

/-- `emit E` (00_scope.md R13). -/
def emit (e : Event) (s : State) : State := { s with events := s.events ++ [e] }

/-! ## The CarrierWindow (20_memory.md R62 to R66) -/

/-- `WPUSH(b)` (20_memory.md R63). A push onto `TPL_LEN` bits, the capacity of 10_state.md R28, faults (log entry 10). -/
def windowPush (b : Bool) (s : State) : Host.Outcome State Fault Refusal :=
  if s.win = [] ∧ b = false then .next s
  else if s.win.length < s.cfg.tplLen then .next { s with win := s.win ++ [b] }
  else .fault .windowOverflow

/-- `WPOP(k)` (20_memory.md R64). -/
def windowPop (k : Nat) (s : State) : State := { s with win := s.win.drop k }

/-- `WSTRIP` (20_memory.md R65). -/
def windowStrip (s : State) : State := { s with win := stripZeros s.win }

/-- `WCLEAR` (20_memory.md R66). -/
def windowClear (s : State) : State := { s with win := [] }

/-! ## The TimeFrame (20_memory.md R67, R68) -/

/-- `FPUSH(sym)` (20_memory.md R67). A push onto `FRAME_CAP` symbols, the capacity of 10_state.md R35, faults (log entry 10). -/
def framePush (y : Symbol) (s : State) : Host.Outcome State Fault Refusal :=
  if s.frame.length < s.cfg.frameCap then .next { s with frame := s.frame ++ [y] } else .fault .frameOverflow

/-- `FCLEAR` (20_memory.md R68). -/
def frameClear (s : State) : State := { s with frame := [] }

/-! ## The moving-average ring -/

/-- `MavgSwap(v)` (20_memory.md R69). An index outside the `MAVG_LEN` words of the ring faults (log entry 10). -/
def mavgSwap (v : Nat) (s : State) : Host.Outcome State Fault Refusal :=
  if s.mpos < s.cfg.mavgLen then
    .next { s with
      msum := s.msum - s.mbuf.getD s.mpos 0 + v
      mbuf := s.mbuf.set s.mpos v
      mpos := (s.mpos + 1) % s.cfg.mavgLen }
  else .fault .ringIndexOutOfRange

/-- `fdiv(S.msum, MAVG_LEN)` (42_detector.md R163; 40_step_and_commands.md R124). -/
def ringAverage (s : State) : Nat := s.msum / s.cfg.mavgLen

/-! ## The correlator on the window -/

/-- `MATCH(S.win, t)` (43_templates_correlator.md R184). -/
def windowMatches (s : State) (t : Template) : Bool := matchBits s.cfg s.win (romTemplate s.rom t)

/-! ## The counters -/

/-- `S.dbr <- S.dbr - 1` (44_window_controller.md R209), which is written only where `S.dbr >= 1` (log entry 11). -/
def countDownDbr (s : State) : Host.Outcome State Fault Refusal :=
  if s.dbr = 0 then .fault .counterUnderflow else .next { s with dbr := s.dbr - 1 }

/-- `S.pr <- S.pr - 1` (44_window_controller.md R213), which is written only where `S.pr >= 1` (log entry 11). -/
def countDownPr (s : State) : Host.Outcome State Fault Refusal :=
  if s.pr = 0 then .fault .counterUnderflow else .next { s with pr := s.pr - 1 }

/-! ## The exceptional entry -/

/-- `LOSS(cause)` (60_exceptions.md R264): nothing is saved, control goes to `AcquiringFrame` with an empty window (R269). There is no
return operation (R271): what undoes `looking` and fills the frame again is the next `ACQ`. -/
def raiseLoss (cause : LossCause) (s : State) : State :=
  emit (.loss cause)
    (windowClear { frameClear s with phase := .acquiringFrame, looking := true, dbr := 0 })

/-! ## Reset -/

/-- `RESET` with a legal configuration (70_reset_and_hazards.md R290): every element of `S` is written, the templates are generated, and
`CFGERR` is emitted when `BPF_ERR` is not 0. What the host has yet to present and the draw counter are no elements of `S`. -/
def resetCore (c : Config) (s : State) : State :=
  { s with
    cfg := c
    rom := templateRom c
    dc := 0
    xh := List.replicate c.bpfNB 0
    yh := List.replicate c.bpfNA 0
    env1 := 0
    env2 := 0
    mbuf := List.replicate c.mavgLen 0
    mpos := 0
    msum := 0
    gate := false
    thrRel := c.thrRelInit
    win := []
    phase := .acquiringFrame
    dbr := 0
    pr := 0
    looking := true
    frame := []
    halted := false
    events := if c.bpfErr = 0 then [] else [.cfgerr c.bpfErr]
    wires := Wires.zero
    resetSeen := true }

/-! ## The port -/

/-- What one step takes from the port. -/
inductive Fetched where
  | idle (s : State)
  | run (i : Instr) (s : State)
  | refused (r : Refusal)
deriving DecidableEq, Repr

/-- Takes the next presentation: `RESET` overrides a command word presented with it (30_encoding.md R94; log entry 22); a command before
the first `RESET` has no meaning (70_reset_and_hazards.md R292); without a command nothing happens (00_scope.md R6; 60_exceptions.md R278). -/
def fetch (s : State) : Fetched :=
  match s.input with
  | [] => .idle s
  | p :: rest =>
    match p.rst, p.cw with
    | some c, _ => .run (.reset c) { s with input := rest }
    | none, some w =>
      if s.resetSeen then .run (decodeWord w) { s with input := rest } else .refused .commandBeforeReset
    | none, none => .idle { s with input := rest }

end Sys2Proof.Machine
end

