-- ==== Sys2Proof/Machine/Conditioning.lean ====
section
/-! DEFINITION. Signal conditioning: `DCBLOCK`, `BPF`, `ENV1`, `NORM` (41_conditioning.md). Each puts what it returns on its wire. -/

namespace Sys2Proof.Machine

/-- `DCBLOCK(x)` (41_conditioning.md R141). -/
def dcBlock (x : Int) (s : State) : State :=
  let dc := s.dc + asr (x * 2 ^ s.cfg.frac - s.dc) s.cfg.dcShift
  { s with dc := dc, wires := { s.wires with hp := x - asr dc s.cfg.frac } }

/-- `acc` of 41_conditioning.md R143. -/
def filterAcc (hp : Int) (s : State) : Int := dot s.cfg.bpfB (hp :: s.xh) - dot s.cfg.bpfA s.yh

/-- The filter's output: R143's, or while `BPF_ERR` is not 0 a draw, any signed `SIG_W`-bit value (R145; log entry 5). -/
def filterOut (hp : Int) (s : State) : Int :=
  if s.cfg.bpfErr = 0 then sat s.cfg.sigW (rsh (filterAcc hp s) s.cfg.bpfFrac)
  else sat s.cfg.sigW (Config.freeFilterOutput s.draws)

/-- `BPF(hp)` (41_conditioning.md R143, R145). -/
def bandPass (hp : Int) (s : State) : State :=
  let bp := filterOut hp s
  { s with
    xh := (hp :: s.xh).take s.cfg.bpfNB
    yh := (bp :: s.yh).take s.cfg.bpfNA
    draws := if s.cfg.bpfErr = 0 then s.draws else s.draws + 1
    wires := { s.wires with bp := bp } }

/-- `ENV1(bp)` (41_conditioning.md R147). -/
def envelope1 (bp : Int) (s : State) : State :=
  let env := follow s.cfg.frac s.env1 bp.natAbs s.cfg.env1Atk s.cfg.env1Rel
  { s with env1 := env, wires := { s.wires with lvl := max (lsr env s.cfg.frac) s.cfg.envFloor } }

/-- `NORM(bp, lvl)` (41_conditioning.md R149): no state is written. -/
def normalise (bp : Int) (lvl : Nat) (s : State) : State :=
  { s with wires := { s.wires with norm := sat s.cfg.sigW (tdiv (bp * s.cfg.target) lvl) } }

/-- The operation DCBLOCK. -/
def execDcblock (x : Int) (s : State) : Host.Outcome State Fault Refusal := .next (dcBlock x s)

/-- The operation BPF. -/
def execBpf (hp : Int) (s : State) : Host.Outcome State Fault Refusal := .next (bandPass hp s)

/-- The operation ENV1. -/
def execEnv1 (bp : Int) (s : State) : Host.Outcome State Fault Refusal := .next (envelope1 bp s)

/-- The operation NORM. -/
def execNorm (bp : Int) (lvl : Nat) (s : State) : Host.Outcome State Fault Refusal := .next (normalise bp lvl s)

end Sys2Proof.Machine
end

