-- ==== Sys2Proof/Machine/Timecode.lean ====
section
/-! DEFINITION. The timecode decoder `DECODE` (45_timecode_decode.md R241 to R245). -/

namespace Sys2Proof.Machine

/-- `bit(i)` (45_timecode_decode.md R241, R243): 1 for `'1'`, 0 for `'0'`, `'P'`, `'R'`. At an index the frame does not hold, which the spec
does not state, a free value (log entry 13). -/
def symbolBit (f : List Symbol) (i : Nat) : Nat :=
  match f[i]? with
  | some .one => 1
  | some .zero => 0
  | some .pos => 0
  | some .ref => 0
  | none => (Config.freeSymbolBit f i).toNat

/-- A digit of four symbols, the lowest index of weight 1 (45_timecode_decode.md R242). -/
def digitAt (f : List Symbol) (i : Nat) : Nat :=
  symbolBit f i + 2 * symbolBit f (i + 1) + 4 * symbolBit f (i + 2) + 8 * symbolBit f (i + 3)

/-- `minute` (45_timecode_decode.md R241). -/
def frameMinute (f : List Symbol) : Nat :=
  digitAt f 10 + 10 * symbolBit f 15 + 20 * symbolBit f 16 + 40 * symbolBit f 17

/-- `hour` (45_timecode_decode.md R241). -/
def frameHour (f : List Symbol) : Nat := digitAt f 20 + 10 * symbolBit f 25 + 20 * symbolBit f 26

/-- `doy` (45_timecode_decode.md R241). -/
def frameDoy (f : List Symbol) : Nat :=
  digitAt f 30 + 10 * digitAt f 35 + 100 * symbolBit f 40 + 200 * symbolBit f 41

/-- `year` (45_timecode_decode.md R241, R244). -/
def frameYear (c : Config) (f : List Symbol) : Nat := c.yearBase + digitAt f 4 + 10 * digitAt f 51

/-- `DECODE(f)` (45_timecode_decode.md R241): no value is checked (R245). -/
def decodeFrame (c : Config) (f : List Symbol) : DecodedTime where
  year := frameYear c f
  doy := frameDoy f
  hour := frameHour f
  minute := frameMinute f

/-- `DECODE(f)` with its result on the wire; it must not mutate decoder state (45_timecode_decode.md R240). -/
def decodeOut (f : List Symbol) (s : State) : State :=
  { s with wires := { s.wires with time := decodeFrame s.cfg f } }

/-- The operation DECODE. -/
def execDecode (f : List Symbol) (s : State) : Host.Outcome State Fault Refusal := .next (decodeOut f s)

end Sys2Proof.Machine
end

