-- ==== Sys2Proof/Machine/Controller.lean ====
section
/-! DEFINITION. The bit-window controller: `CTL`, `ACQ`, `DATA`, `POS`, `FRAMEDONE` (44_window_controller.md) and `LOSS` as an operation
(60_exceptions.md R264). A precondition whose failure leaves every line of the pseudocode defined is not tested (log entry 11). -/

namespace Sys2Proof.Machine

/-- `if S.looking = 1 then emit LOCK`, then `S.looking <- 0` (44_window_controller.md R203, R219). -/
def acquireLock (s : State) : State :=
  let s := if s.looking then emit .lock s else s
  { s with looking := false }

/-- `ACQ` branch 1, frame start, after `FCLEAR` and `FPUSH('R')` (44_window_controller.md R203, R204). -/
def startFrame (s : State) : State :=
  let s := emit (.sym .ref) s
  let s := { s with dbr := s.cfg.dbrFirst, pr := s.cfg.prInit, phase := .awaitingData }
  acquireLock (windowClear s)

/-- `ACQ` branch 2, a symbol boundary that is no frame start (44_window_controller.md R203, R205). -/
def lockOnSymbol (s : State) : State :=
  let s := windowStrip (windowPop s.cfg.tplLen s)
  emit .lock { s with looking := false }

/-- `ACQ` branch 3, the slip by one (44_window_controller.md R203, R206). -/
def slip (s : State) : State := windowStrip (windowPop 1 s)

/-- `ACQ` (44_window_controller.md R203). -/
def acquire (s : State) : Host.Outcome State Fault Refusal :=
  if windowMatches s .ref then
    andThen (framePush .ref (frameClear s)) fun s => .next (startFrame s)
  else if s.looking && (windowMatches s .one || windowMatches s .zero || windowMatches s .ref) then
    .next (lockOnSymbol s)
  else .next (slip s)

/-- `FRAMEDONE` (44_window_controller.md R216). -/
def frameDone (s : State) : State :=
  { frameClear (emit (.time (decodeFrame s.cfg s.frame)) s) with phase := .acquiringFrame }

/-- What `DATA` does once `S.dbr` has been decremented (44_window_controller.md R209). -/
def afterDataSymbol (s : State) : State :=
  if s.dbr = 0 then (if s.pr = 0 then frameDone s else { s with phase := .awaitingPosition }) else s

/-- `DATA` for a window classified as `y` (44_window_controller.md R209). -/
def acceptData (y : Symbol) (s : State) : Host.Outcome State Fault Refusal :=
  andThen (framePush y s) fun s =>
  andThen (countDownDbr (emit (.sym y) s)) fun s =>
  .next (windowClear (afterDataSymbol s))

/-- `DATA` (44_window_controller.md R209). -/
def classifyData (s : State) : Host.Outcome State Fault Refusal :=
  if windowMatches s .one then acceptData .one s
  else if windowMatches s .zero then acceptData .zero s
  else .next (raiseLoss .dataSymbol s)

/-- The end of `POS` for a matching window: the phase and the window (44_window_controller.md R213). -/
def resumeData (s : State) : State := windowClear { s with phase := .awaitingData }

/-- `POS` (44_window_controller.md R213). -/
def classifyPosition (s : State) : Host.Outcome State Fault Refusal :=
  if windowMatches s .pos then
    andThen (framePush .pos s) fun s =>
    andThen (countDownPr { emit (.sym .pos) s with dbr := s.cfg.dbrNext }) fun s =>
    .next (resumeData s)
  else .next (raiseLoss .positionMarker s)

/-- The classification of a full window by phase (44_window_controller.md R201). -/
def classify (s : State) : Host.Outcome State Fault Refusal :=
  match s.phase with
  | .acquiringFrame => acquire s
  | .awaitingData => classifyData s
  | .awaitingPosition => classifyPosition s

/-- Puts the flag `adapt` on its wire (44_window_controller.md R201, R202). -/
def setAdapt (b : Bool) (s : State) : State := { s with wires := { s.wires with adapt := b } }

/-- `CTL(b)` (44_window_controller.md R201). -/
def control (b : Bool) (s : State) : Host.Outcome State Fault Refusal :=
  andThen (windowPush b s) fun s =>
  if s.win.length = s.cfg.tplLen then classify (setAdapt true s) else .next (setAdapt false s)

/-- The operation CTL. -/
def execCtl (b : Bool) (s : State) : Host.Outcome State Fault Refusal := control b s

/-- The operation ACQ. -/
def execAcq (s : State) : Host.Outcome State Fault Refusal := acquire s

/-- The operation DATA. -/
def execData (s : State) : Host.Outcome State Fault Refusal := classifyData s

/-- The operation POS. -/
def execPos (s : State) : Host.Outcome State Fault Refusal := classifyPosition s

/-- The operation FRAMEDONE. -/
def execFramedone (s : State) : Host.Outcome State Fault Refusal := .next (frameDone s)

/-- The operation LOSS. -/
def execLoss (cause : LossCause) (s : State) : Host.Outcome State Fault Refusal := .next (raiseLoss cause s)

end Sys2Proof.Machine
end

