-- ==== Sys2Proof/Machine/Correlator.lean ====
section
/-! DEFINITION. The operations `TPLGEN` and `MATCH` (43_templates_correlator.md R181, R184). -/

namespace Sys2Proof.Machine

/-- The operation TPLGEN (43_templates_correlator.md R181): writes the ROM from the configuration in force (log entry 14). -/
def execTplgen (s : State) : Host.Outcome State Fault Refusal := .next { s with rom := templateRom s.cfg }

/-- The operation MATCH (43_templates_correlator.md R184): writes nothing but its result's wire. -/
def execMatch (c : List Bool) (t : Template) (s : State) : Host.Outcome State Fault Refusal :=
  .next { s with wires := { s.wires with matched := matchBits s.cfg c (romTemplate s.rom t) } }

end Sys2Proof.Machine
end

