-- ==== Sys2Proof/Machine/Detector.lean ====
section
/-! DEFINITION. The carrier detector: `ENV2`, `MAVG`, `GATE`, `ADAPT` (42_detector.md). -/

namespace Sys2Proof.Machine

/-- `ENV2(norm)` (42_detector.md R161). -/
def envelope2 (v : Int) (s : State) : State :=
  let env := follow s.cfg.frac s.env2 v.natAbs s.cfg.env2Atk s.cfg.env2Rel
  { s with env2 := env, wires := { s.wires with lev2 := lsr env s.cfg.frac } }

/-- Puts the ring's average on its wire (42_detector.md R163). -/
def averageOut (s : State) : State := { s with wires := { s.wires with mavg := ringAverage s } }

/-- `MAVG(lev2)` (42_detector.md R163). -/
def movingAverage (lev2 : Nat) (s : State) : Host.Outcome State Fault Refusal :=
  andThen (mavgSwap lev2 s) fun s => .next (averageOut s)

/-- `GATE(lev2)` (42_detector.md R165). -/
def noiseGate (lev2 : Nat) (s : State) : State :=
  let g := gateNext s.cfg s.gate s.thrRel lev2
  { s with gate := g, wires := { s.wires with cbit := g } }

/-- `ADAPT(mavg)` (42_detector.md R167). -/
def adaptThreshold (mavg : Nat) (s : State) : State := { s with thrRel := adaptedThreshold s.cfg mavg }

/-- The operation ENV2. -/
def execEnv2 (v : Int) (s : State) : Host.Outcome State Fault Refusal := .next (envelope2 v s)

/-- The operation MAVG. -/
def execMavg (lev2 : Nat) (s : State) : Host.Outcome State Fault Refusal := movingAverage lev2 s

/-- The operation GATE. -/
def execGate (lev2 : Nat) (s : State) : Host.Outcome State Fault Refusal := .next (noiseGate lev2 s)

/-- The operation ADAPT. -/
def execAdapt (mavg : Nat) (s : State) : Host.Outcome State Fault Refusal := .next (adaptThreshold mavg s)

end Sys2Proof.Machine
end

