-- ==== Sys2Proof/Machine/Window.lean ====
section
/-! DEFINITION. The access operations of the CarrierWindow and the TimeFrame as operations of their own (20_memory.md R63 to R68). -/

namespace Sys2Proof.Machine

/-- The operation WPUSH. -/
def execWpush (b : Bool) (s : State) : Host.Outcome State Fault Refusal := windowPush b s

/-- The operation WPOP. -/
def execWpop (k : Nat) (s : State) : Host.Outcome State Fault Refusal := .next (windowPop k s)

/-- The operation WSTRIP. -/
def execWstrip (s : State) : Host.Outcome State Fault Refusal := .next (windowStrip s)

/-- The operation WCLEAR. -/
def execWclear (s : State) : Host.Outcome State Fault Refusal := .next (windowClear s)

/-- The operation FPUSH. -/
def execFpush (y : Symbol) (s : State) : Host.Outcome State Fault Refusal := framePush y s

/-- The operation FCLEAR. -/
def execFclear (s : State) : Host.Outcome State Fault Refusal := .next (frameClear s)

end Sys2Proof.Machine
end

