-- ==== Sys2Proof/Machine/Commands.lean ====
section
/-! DEFINITION. `RESET` (70_reset_and_hazards.md R290) and the four commands (40_step_and_commands.md R121 to R126). -/

namespace Sys2Proof.Machine

/-- The operation RESET: a configuration outside 00_scope.md R9 is refused (70_reset_and_hazards.md R290; 93_implementation_defined.md U7). -/
def execReset (c : Config) (s : State) : Host.Outcome State Fault Refusal :=
  if c.valid then .next (resetCore c s) else .refused .illegalConfig

/-- The operation NOP (40_step_and_commands.md R122). -/
def execNop (s : State) : Host.Outcome State Fault Refusal := .next (beginStep s)

/-- Items 1 to 5 of the order of a `SAMPLE` step (40_step_and_commands.md R121). -/
def conditionSample (x : Int) (s : State) : State :=
  let s := dcBlock x s
  let s := bandPass s.wires.hp s
  let s := envelope1 s.wires.bp s
  let s := normalise s.wires.bp s.wires.lvl s
  envelope2 s.wires.norm s

/-- Item 9 of the order: `ADAPT` when `CTL` returned `adapt = 1` (40_step_and_commands.md R121, R123, R124). -/
def adaptIfAsked (mavg : Nat) (s : State) : State := if s.wires.adapt then adaptThreshold mavg s else s

/-- The operation SAMPLE (40_step_and_commands.md R121, R123). -/
def execSample (x : Int) (s : State) : Host.Outcome State Fault Refusal :=
  if s.halted then .next (beginStep s)
  else
    let s := conditionSample x (beginStep s)
    andThen (movingAverage s.wires.lev2 s) fun s =>
    let s := noiseGate s.wires.lev2 s
    andThen (control s.wires.cbit s) fun s =>
    .next (adaptIfAsked s.wires.mavg s)

/-- The operation CBIT (40_step_and_commands.md R124). -/
def execCbit (b : Bool) (s : State) : Host.Outcome State Fault Refusal :=
  if s.halted then .next (beginStep s)
  else andThen (control b (beginStep s)) fun s => .next (adaptIfAsked (ringAverage s) s)

/-- The operation EOS (40_step_and_commands.md R125). -/
def execEos (s : State) : Host.Outcome State Fault Refusal :=
  if s.halted then .next (beginStep s)
  else .next (emit .halt { beginStep s with halted := true })

end Sys2Proof.Machine
end

