-- ==== Sys2Proof/Machine/Dispatch.lean ====
section
/-! DEFINITION. One arm per operation. -/

namespace Sys2Proof.Machine

def exec (i : Instr) (s : State) : Host.Outcome State Fault Refusal :=
  match i with
  | .reset c => Sys2Proof.Machine.execReset c s
  | .nop => Sys2Proof.Machine.execNop s
  | .sample x => Sys2Proof.Machine.execSample x s
  | .cbit b => Sys2Proof.Machine.execCbit b s
  | .eos => Sys2Proof.Machine.execEos s
  | .dcblock x => Sys2Proof.Machine.execDcblock x s
  | .bpf hp => Sys2Proof.Machine.execBpf hp s
  | .env1 bp => Sys2Proof.Machine.execEnv1 bp s
  | .norm bp lvl => Sys2Proof.Machine.execNorm bp lvl s
  | .env2 v => Sys2Proof.Machine.execEnv2 v s
  | .mavg v => Sys2Proof.Machine.execMavg v s
  | .gate v => Sys2Proof.Machine.execGate v s
  | .adapt v => Sys2Proof.Machine.execAdapt v s
  | .tplgen => Sys2Proof.Machine.execTplgen s
  | .matchTpl c t => Sys2Proof.Machine.execMatch c t s
  | .wpush b => Sys2Proof.Machine.execWpush b s
  | .wpop k => Sys2Proof.Machine.execWpop k s
  | .wstrip => Sys2Proof.Machine.execWstrip s
  | .wclear => Sys2Proof.Machine.execWclear s
  | .fpush y => Sys2Proof.Machine.execFpush y s
  | .fclear => Sys2Proof.Machine.execFclear s
  | .ctl b => Sys2Proof.Machine.execCtl b s
  | .acq => Sys2Proof.Machine.execAcq s
  | .data => Sys2Proof.Machine.execData s
  | .pos => Sys2Proof.Machine.execPos s
  | .framedone => Sys2Proof.Machine.execFramedone s
  | .loss cause => Sys2Proof.Machine.execLoss cause s
  | .decode f => Sys2Proof.Machine.execDecode f s

end Sys2Proof.Machine
end

