-- ==== Sys2Proof/Machine/Step.lean ====
section
/-! DEFINITION. One step: what the port presents next, run (40_step_and_commands.md R120). -/

namespace Sys2Proof.Machine

/-- One step (40_step_and_commands.md R120): the operation presented at the port, or nothing where none is. -/
def step (s : State) : Host.Outcome State Fault Refusal :=
  match fetch s with
  | .idle s => .next s
  | .run i s => exec i s
  | .refused r => .refused r

/-- `s` with the command word of a table row presented next, before what else the host presents; a run that has not begun with a
`RESET` counts as begun, or the step would run no command (log entries 8, 9). -/
def State.withFetchWord (s : State) (nbits w : Nat) : State :=
  { s with
    input := { rst := none, cw := some (BitVec.ofNat 18 (tableWord nbits w)) } :: s.input
    resetSeen := true }

end Sys2Proof.Machine
end

