-- ==== Sys2Proof/Machine/Stimulus.lean ====
section
/-! DEFINITION. What a host presents: the stimulus notation and its pseudo-commands (30_encoding.md R101, R102), and the byte-stream
front end (20_memory.md R70, R71). All of it is outside the core (log entry 19). -/

namespace Sys2Proof.Machine

/-- The line `RST`: the reset input, no command word with it (30_encoding.md R101). -/
def resetInput (c : Config) : PortInput := { rst := some c, cw := none }

/-- A command word, the reset input not asserted. -/
def wordInput (w : CmdWord) : PortInput := { rst := none, cw := some w }

/-- The line `NOP` (30_encoding.md R101). -/
def nopInput : PortInput := wordInput 0x00000#18

/-- The line `S x`: `0x10000 + (x mod 65536)` (30_encoding.md R101). -/
def sampleInput (x : Int) : PortInput := wordInput (0x10000#18 + BitVec.ofNat 18 (x % 65536).toNat)

/-- The lines `B 0` and `B 1` (30_encoding.md R101). -/
def bitInput (b : Bool) : PortInput := wordInput (if b then 0x20001#18 else 0x20000#18)

/-- The line `EOS` (30_encoding.md R101). -/
def eosInput : PortInput := wordInput 0x30000#18

/-- `TPL t`: `B 1 * (ACT_t*SPB)` then `B 0 * (GAP_t*SPB)` (30_encoding.md R102). -/
def templateInputs (c : Config) (t : Template) : List PortInput := (templateBits c t).map bitInput

/-- The template of a symbol (00_scope.md R14). -/
def symbolTemplate : Symbol → Template
  | .zero => .zero
  | .one => .one
  | .pos => .pos
  | .ref => .ref

/-- `SYMS`: the templates of a sequence of symbols, back to back (30_encoding.md R102). -/
def symbolInputs (c : Config) (ys : List Symbol) : List PortInput :=
  ys.flatMap fun y => templateInputs c (symbolTemplate y)

/-- The sample of two bytes of the stream, low byte first, two's complement (20_memory.md R70). -/
def sampleOfBytes (lo hi : BitVec 8) : Int := sext16 (hi ++ lo)

/-- The front end on a byte stream that ends: one `SAMPLE` for each two bytes, an odd last byte dropped, then `EOS`
(20_memory.md R70, R71). -/
def frontEnd : List (BitVec 8) → List PortInput
  | lo :: hi :: rest => sampleInput (sampleOfBytes lo hi) :: frontEnd rest
  | [_] => [eosInput]
  | [] => [eosInput]

end Sys2Proof.Machine
end

