-- ==== Sys2Proof/Safety.lean ====
section
/-! DEFINITION. What a state of the core satisfies after every step (10_state.md R21 to R30, R42; 44_window_controller.md R217), what a
safe run is, and the words claims are stated in. -/

namespace Sys2Proof

open Sys2Proof.Machine

/-- The configuration is legal (00_scope.md R9) and the ROM holds its templates (10_state.md R37). -/
structure ConfigInv (s : State) : Prop where
  valid : s.cfg.valid = true
  rom : s.rom = templateRom s.cfg

/-- The ranges of the conditioning registers (10_state.md R21, R22, R23). -/
structure ConditioningInv (s : State) : Prop where
  dc_lower : -(2 ^ 15) * 2 ^ s.cfg.frac ≤ s.dc
  dc_upper : s.dc ≤ (2 ^ 15 - 1) * 2 ^ s.cfg.frac
  xh_length : s.xh.length = s.cfg.bpfNB
  yh_length : s.yh.length = s.cfg.bpfNA
  xh_range : ∀ v ∈ s.xh, fitsSigned s.cfg.sigW v = true
  yh_range : ∀ v ∈ s.yh, fitsSigned s.cfg.sigW v = true
  env1_range : s.env1 ≤ 2 ^ (s.cfg.sigW - 1) * 2 ^ s.cfg.frac

/-- The ranges of the detector registers and the sum of the ring (10_state.md R24, R25, R27). -/
structure DetectorInv (s : State) : Prop where
  env2_range : s.env2 ≤ 2 ^ (s.cfg.sigW - 1) * 2 ^ s.cfg.frac
  ring_length : s.mbuf.length = s.cfg.mavgLen
  ring_range : ∀ v ∈ s.mbuf, v ≤ 2 ^ (s.cfg.sigW - 1)
  ring_index : s.mpos < s.cfg.mavgLen
  ring_sum : s.msum = s.mbuf.sum
  thr_lower : s.cfg.thrRelMin ≤ s.thrRel
  thr_upper : s.thrRel ≤ s.cfg.thrOpen

/-- The window is empty or begins with a 1 (10_state.md R29). -/
def windowCanonical (w : List Bool) : Prop := w.head? ≠ some false

/-- The window between steps (10_state.md R29, R30). -/
structure WindowInv (s : State) : Prop where
  leading : windowCanonical s.win
  bound : s.win.length < s.cfg.tplLen

/-- The relations between the controller's fields (10_state.md R42), for any `DBR_FIRST`, `DBR_NEXT`, `PR_INIT`. -/
def ControllerInv (s : State) : Prop :=
  match s.phase with
  | .acquiringFrame => s.dbr = 0 ∧ s.pr ≤ s.cfg.prInit ∧ s.frame = []
  | .awaitingData =>
    1 ≤ s.dbr ∧ s.dbr ≤ (if s.pr = s.cfg.prInit then s.cfg.dbrFirst else s.cfg.dbrNext)
      ∧ s.pr ≤ s.cfg.prInit ∧ s.looking = false
      ∧ s.frame.length + s.dbr = s.cfg.frameLenAfter (s.cfg.prInit - s.pr)
  | .awaitingPosition =>
    s.dbr = 0 ∧ 1 ≤ s.pr ∧ s.pr ≤ s.cfg.prInit ∧ s.looking = false
      ∧ s.frame.length = s.cfg.frameLenAfter (s.cfg.prInit - s.pr)

/-- The invariant of the machine: what every step keeps. -/
structure MachineInv (s : State) : Prop where
  config : ConfigInv s
  conditioning : ConditioningInv s
  detector : DetectorInv s
  window : WindowInv s
  controller : ControllerInv s

/-- What stands at index `i` of a frame (44_window_controller.md R217), for any `DBR_FIRST` and `DBR_NEXT`: `'R'` at 0, `'P'` after the first
data group and after each further one, data elsewhere. -/
def frameSlotOk (c : Config) (i : Nat) (y : Symbol) : Prop :=
  if i = 0 then y = .ref
  else if c.dbrFirst < i ∧ (i - (1 + c.dbrFirst)) % (1 + c.dbrNext) = 0 then y = .pos
  else y = .one ∨ y = .zero

/-- Every symbol of the frame stands where the layout puts it (44_window_controller.md R217). -/
def FrameLayout (s : State) : Prop := ∀ i y, s.frame[i]? = some y → frameSlotOk s.cfg i y

/-- A step that goes on. -/
def goesOn (r : Host.Outcome State Fault Refusal) : Prop := ∃ t, r = .next t

/-- The constants the source fixes for templates and tolerance (00_scope.md R7): block counts 77/23, 77/23, 47/53, 17/83, tolerance 12/100. -/
structure ReferenceTemplates (c : Config) : Prop where
  actR : c.actR = 77
  gapR : c.gapR = 23
  actP : c.actP = 77
  gapP : c.gapP = 23
  act1 : c.act1 = 47
  gap1 : c.gap1 = 53
  act0 : c.act0 = 17
  gap0 : c.gap0 = 83
  tolNum : c.tolNum = 12
  tolDen : c.tolDen = 100

/-- Whether the number of `i < TPL_LEN` at which the window differs from `TplRead(t, i)` is within the bound for `TPL_LEN` positions: the
condition `MATCH(S.win, t)` of a full window as 43_templates_correlator.md R184 states its value, independent of how the model computes it. -/
def windowWithinTolerance (s : State) (t : Template) : Bool :=
  decide ((List.range s.cfg.tplLen).countP (fun i => s.win[i]? != tplRead s.rom t i) ≤ s.cfg.tolNum * s.cfg.tplLen / s.cfg.tolDen)

/-- The number of positions at which two bit sequences differ over their common prefix (43_templates_correlator.md R184). -/
def mismatches (a b : List Bool) : Nat := (a.zip b).countP fun p => p.1 != p.2

/-- The operation `CTL` runs on a full window in a phase (44_window_controller.md R201). -/
def phaseOp : Phase → Instr
  | .acquiringFrame => .acq
  | .awaitingData => .data
  | .awaitingPosition => .pos

/-- The window after `WPUSH(b)` (20_memory.md R63). -/
def pushed (b : Bool) (w : List Bool) : List Bool := if w = [] ∧ b = false then [] else w ++ [b]

/-- A state without the model's own wires (log entry 6). -/
def eraseWires (s : State) : State := { s with wires := Wires.zero }

/-- An outcome without the model's own wires. -/
def eraseOutcome : Host.Outcome State Fault Refusal → Host.Outcome State Fault Refusal
  | .next s => .next (eraseWires s)
  | .fault f => .fault f
  | .refused r => .refused r

/-- The mnemonic of an operation in spec/opcode_table.json. -/
def mnemonic : Instr → String
  | .reset _ => "RESET"
  | .nop => "NOP"
  | .sample _ => "SAMPLE"
  | .cbit _ => "CBIT"
  | .eos => "EOS"
  | .dcblock _ => "DCBLOCK"
  | .bpf _ => "BPF"
  | .env1 _ => "ENV1"
  | .norm _ _ => "NORM"
  | .env2 _ => "ENV2"
  | .mavg _ => "MAVG"
  | .gate _ => "GATE"
  | .adapt _ => "ADAPT"
  | .tplgen => "TPLGEN"
  | .matchTpl _ _ => "MATCH"
  | .wpush _ => "WPUSH"
  | .wpop _ => "WPOP"
  | .wstrip => "WSTRIP"
  | .wclear => "WCLEAR"
  | .fpush _ => "FPUSH"
  | .fclear => "FCLEAR"
  | .ctl _ => "CTL"
  | .acq => "ACQ"
  | .data => "DATA"
  | .pos => "POS"
  | .framedone => "FRAMEDONE"
  | .loss _ => "LOSS"
  | .decode _ => "DECODE"

/-- The four commands (40_step_and_commands.md R120). -/
def isCommand : Instr → Bool
  | .nop => true
  | .sample _ => true
  | .cbit _ => true
  | .eos => true
  | .reset _ => false
  | .dcblock _ => false
  | .bpf _ => false
  | .env1 _ => false
  | .norm _ _ => false
  | .env2 _ => false
  | .mavg _ => false
  | .gate _ => false
  | .adapt _ => false
  | .tplgen => false
  | .matchTpl _ _ => false
  | .wpush _ => false
  | .wpop _ => false
  | .wstrip => false
  | .wclear => false
  | .fpush _ => false
  | .fclear => false
  | .ctl _ => false
  | .acq => false
  | .data => false
  | .pos => false
  | .framedone => false
  | .loss _ => false
  | .decode _ => false

end Sys2Proof
end

