-- ==== Sys2Proof/Certificates/Slice0/Obligations.lean ====
section
/-! DEFINITION. The statements for the provers. What an operation returns is read on its wire, and what it emits at the end of `events`
(log entries 6 and 7: where the model puts them); the rest of each statement is the cited rule's. -/

open Sys2Proof Sys2Proof.Machine

/-! ## Encoding -/

/-- Words written out from 30_encoding.md R91 and the stimuli of R101. -/
def Obligations.WrittenOutWordsDecode : Prop :=
  decodeWord 0b000000000000000000#18 = .nop ∧ decodeWord 0b010000001111101000#18 = .sample 1000 ∧
  decodeWord 0b011111111111111111#18 = .sample (-1) ∧ decodeWord 0b011000000000000000#18 = .sample (-32768) ∧
  decodeWord 0b100000000000000001#18 = .cbit true ∧ decodeWord 0b101111111111111110#18 = .cbit false ∧
  decodeWord 0b110000000000000000#18 = .eos

/-- 30_encoding.md R91 and R93: the decoder is total on the `2^18` words, `cmd` selects the command, `data` is a two's complement sample or
its bit 0 a carrier bit, and words that differ only in unused bits are one command. -/
def Obligations.EveryWordIsTheCommandOfItsField : Prop :=
  (∀ data : BitVec 16,
    decodeWord (commandWord 0#2 data) = .nop ∧ decodeWord (commandWord 1#2 data) = .sample data.toInt ∧
    decodeWord (commandWord 2#2 data) = .cbit (data.getLsbD 0) ∧ decodeWord (commandWord 3#2 data) = .eos) ∧
  (∀ n, n < 2 ^ 18 → ∃ i, decode n = .ok i ∧ isCommand i = true) ∧
  (∀ w w' : CmdWord, cmdField w = cmdField w' → cmdField w ≠ 1#2 → (cmdField w = 2#2 → w.getLsbD 0 = w'.getLsbD 0) →
    decodeWord w = decodeWord w')

/-- Decoding the command word of a well-formed command gives the command back, every sample among them, and every command has a word. -/
def Obligations.DecodeEncodeIsTheCommand : Prop :=
  ∀ (c : Config) (i : Instr), i.wellFormed c = true → isCommand i = true →
    ∃ w, encode i = some w ∧ decodeWord w = i ∧ decode w.toNat = .ok i

/-- Every word's command encodes to a word of the same field that decodes to the same command. -/
def Obligations.EveryWordReencodes : Prop :=
  ∀ w : CmdWord, ∃ w', encode (decodeWord w) = some w' ∧ cmdField w' = cmdField w ∧ decodeWord w' = decodeWord w

/-- No event is lost in its 37-bit word, `TIME` values within their fields (30_encoding.md R97); the reader is the model's
(93_implementation_defined.md U10). -/
def Obligations.EventWordsReadBack : Prop :=
  ∀ e : Event, (∀ t, e = .time t → t.year < 2 ^ 12 ∧ t.doy < 2 ^ 9 ∧ t.hour < 2 ^ 6 ∧ t.minute < 2 ^ 7) →
    decodeEvent (encodeEvent e) = some e

/-- The codes and payload fields of 30_encoding.md R97, with the symbol codes of R98 and the unused payload bits 0 (R96). -/
def Obligations.EventWordLayout : Prop :=
  (encodeEvent (.sym .zero)).toNat = 1 * 2 ^ 34 + 0 ∧ (encodeEvent (.sym .one)).toNat = 1 * 2 ^ 34 + 1 ∧
  (encodeEvent (.sym .pos)).toNat = 1 * 2 ^ 34 + 2 ∧ (encodeEvent (.sym .ref)).toNat = 1 * 2 ^ 34 + 3 ∧
  (symbolCode .zero).toNat = 0 ∧ (symbolCode .one).toNat = 1 ∧ (symbolCode .pos).toNat = 2 ∧ (symbolCode .ref).toNat = 3 ∧
  (encodeEvent .lock).toNat = 2 * 2 ^ 34 ∧
  (encodeEvent (.loss .dataSymbol)).toNat = 3 * 2 ^ 34 + 1 ∧ (encodeEvent (.loss .positionMarker)).toNat = 3 * 2 ^ 34 + 2 ∧
  (∀ t : DecodedTime, t.year < 2 ^ 12 → t.doy < 2 ^ 9 → t.hour < 2 ^ 6 → t.minute < 2 ^ 7 →
    (encodeEvent (.time t)).toNat = 4 * 2 ^ 34 + t.year * 2 ^ 22 + t.doy * 2 ^ 13 + t.hour * 2 ^ 7 + t.minute) ∧
  (∀ e, (encodeEvent (.cfgerr e)).toNat = 5 * 2 ^ 34 + e.toNat) ∧
  (encodeEvent .halt).toNat = 6 * 2 ^ 34

/-! ## The step -/

/-- A command word presented next, after a `RESET` has happened, is decoded and run, and taken from what the host presents; the word that
`withFetchWord` presents is run so; without a command nothing happens (log entries 8 and 9). -/
def Obligations.StepRunsThePresentedCommand : Prop :=
  (∀ (s : State) (w : CmdWord) (rest : List PortInput), s.input = { rst := none, cw := some w } :: rest → s.resetSeen = true →
    step s = exec (decodeWord w) { s with input := rest }) ∧
  (∀ (s : State) (nbits w : Nat), w < 2 ^ 18 → 18 ≤ nbits →
    step (s.withFetchWord nbits w) = exec (decodeWord (BitVec.ofNat 18 w)) { s with resetSeen := true } ∧
    decodeTableWord nbits w = some (decodeWord (BitVec.ofNat 18 w))) ∧
  (∀ s : State, s.input = [] → step s = .next s) ∧
  (∀ (s : State) (rest : List PortInput), s.input = { rst := none, cw := none } :: rest → step s = .next { s with input := rest })

/-- 30_encoding.md R94: no command word is `RESET`; the reset input overrides any command word presented with it. That the overridden word is
taken from the port and never run is the model's choice (log entry 22). -/
def Obligations.ResetOverridesTheCommandWord : Prop :=
  (∀ (w : CmdWord) (c : Config), decodeWord w ≠ .reset c) ∧
  (∀ (s : State) (c : Config) (cw : Option CmdWord) (rest : List PortInput), s.input = { rst := some c, cw := cw } :: rest →
    step s = exec (.reset c) { s with input := rest })

/-- 70_reset_and_hazards.md R292: before the first `RESET` no command has a meaning, and `RESET` has the one it always has. -/
def Obligations.CommandBeforeResetIsRefused : Prop :=
  ∀ (s : State) (rest : List PortInput), s.resetSeen = false →
    (∀ w : CmdWord, s.input = { rst := none, cw := some w } :: rest → step s = .refused .commandBeforeReset) ∧
    (∀ (c : Config) (cw : Option CmdWord), s.input = { rst := some c, cw := cw } :: rest → c.valid = true →
      ∃ t, step s = .next t ∧ t.resetSeen = true)

/-! ## RESET -/

/-- 70_reset_and_hazards.md R290: a legal configuration gives the reset state and `CFGERR` when `BPF_ERR` is not 0, nothing of the old state
survives, two resets equal one; an illegal one is refused. That the templates have `TPL_LEN` bits, with those that `TplRead` gives, for
pairs of block counts that do not sum to 100 too is the model's reading (log entry 15). -/
def Obligations.ResetInstallsTheResetState : Prop :=
  ∀ (c : Config) (s : State),
    (c.valid = true → ∃ t, exec (.reset c) s = .next t ∧
      t.cfg = c ∧ (∀ n, (romTemplate t.rom n).length = c.tplLen) ∧
      (∀ n i, i < c.tplLen → tplRead t.rom n i = some (decide (i < c.act n * c.spb))) ∧
      t.dc = 0 ∧ t.xh = List.replicate c.bpfNB 0 ∧ t.yh = List.replicate c.bpfNA 0 ∧ t.env1 = 0 ∧ t.env2 = 0 ∧
      t.mbuf = List.replicate c.mavgLen 0 ∧ t.mpos = 0 ∧ t.msum = 0 ∧ t.gate = false ∧ t.thrRel = c.thrRelInit ∧
      t.win = [] ∧ t.frame = [] ∧ t.phase = .acquiringFrame ∧ t.dbr = 0 ∧ t.pr = 0 ∧ t.looking = true ∧ t.halted = false ∧
      t.events = (if c.bpfErr = 0 then [] else [.cfgerr c.bpfErr]) ∧
      exec (.reset c) t = .next t) ∧
    (c.valid = false → exec (.reset c) s = .refused .illegalConfig)

/-- 00_scope.md R9: `RESET` goes on exactly for the configurations that meet the constraints, and refuses every other. Constraints that a
natural number meets by being one have no clause, and `BPF_NB >= 0` is that `BPF_B` has an entry. -/
def Obligations.ResetAcceptsTheLegalConfigurations : Prop :=
  ∀ (c : Config) (s : State),
    let legal := (0 < c.fs ∧ c.fs % 100 = 0) ∧ c.tolNum ≤ c.tolDen ∧ 0 < c.tolDen ∧ 18 ≤ c.sigW ∧ 1 ≤ c.envFloor ∧ 1 ≤ c.target ∧
      1 ≤ c.mavgLen ∧ 1 ≤ c.thrRelMin ∧ c.thrRelMin ≤ c.thrOpen ∧ c.thrRelMin ≤ c.thrRelInit ∧ c.thrRelInit ≤ c.thrOpen ∧
      1 ≤ c.relDen ∧ c.bpfB ≠ [] ∧ 1 ≤ c.dbrFirst ∧ 1 ≤ c.dbrNext ∧ 1 + c.dbrFirst + c.prInit * (1 + c.dbrNext) ≤ c.frameCap
    (legal → ∃ t, exec (.reset c) s = .next t) ∧ (¬ legal → exec (.reset c) s = .refused .illegalConfig)

/-! ## Commands -/

/-- 40_step_and_commands.md R122. -/
def Obligations.NopChangesNothing : Prop := ∀ s : State, exec .nop s = .next { s with events := [] }

/-- 40_step_and_commands.md R126. -/
def Obligations.HaltedCoreIgnoresCommands : Prop :=
  ∀ s : State, s.halted = true →
    (∀ i, isCommand i = true → exec i s = .next { s with events := [] }) ∧
    (∀ c : Config, c.valid = true → ∃ t, exec (.reset c) s = .next t ∧ t.halted = false)

/-- 40_step_and_commands.md R125. -/
def Obligations.EosHaltsOnce : Prop :=
  ∀ s : State,
    (s.halted = false → exec .eos s = .next { s with halted := true, events := [.halt] }) ∧
    (s.halted = true → exec .eos s = .next { s with events := [] })

/-- 40_step_and_commands.md R121: a `SAMPLE` step is its nine operations in order, each on the state the one before left and on the values it
returned; a `CBIT` step is items 8 and 9. -/
def Obligations.SampleRunsTheChainInOrder : Prop :=
  ∀ s : State, s.halted = false →
    (∀ x : Int, exec (.sample x) s =
      andThen (exec (.dcblock x) { s with events := [] }) fun s =>
      andThen (exec (.bpf s.wires.hp) s) fun s =>
      andThen (exec (.env1 s.wires.bp) s) fun s =>
      andThen (exec (.norm s.wires.bp s.wires.lvl) s) fun s =>
      andThen (exec (.env2 s.wires.norm) s) fun s =>
      andThen (exec (.mavg s.wires.lev2) s) fun s =>
      andThen (exec (.gate s.wires.lev2) s) fun s =>
      andThen (exec (.ctl s.wires.cbit) s) fun s =>
      if s.wires.adapt then exec (.adapt s.wires.mavg) s else .next s) ∧
    (∀ b : Bool, exec (.cbit b) s =
      andThen (exec (.ctl b) { s with events := [] }) fun s =>
      if s.wires.adapt then exec (.adapt (s.msum / s.cfg.mavgLen)) s else .next s)

/-- Every 16-bit sample is legal (40_step_and_commands.md R123): from a state with the invariant the step goes on; what it leaves alone. -/
def Obligations.SampleCompletes : Prop :=
  ∀ (s : State) (x : Int), MachineInv s → s.halted = false → -32768 ≤ x → x ≤ 32767 →
    ∃ t, exec (.sample x) s = .next t ∧
      t.cfg = s.cfg ∧ t.rom = s.rom ∧ t.halted = false ∧ t.input = s.input ∧ t.resetSeen = s.resetSeen ∧
      t.draws = (if s.cfg.bpfErr = 0 then s.draws else s.draws + 1) ∧ t.gate = t.wires.cbit ∧
      (t.wires.adapt = false → t.win = pushed t.gate s.win ∧ t.thrRel = s.thrRel ∧ t.phase = s.phase ∧ t.dbr = s.dbr ∧
        t.pr = s.pr ∧ t.looking = s.looking ∧ t.frame = s.frame ∧ t.events = [])

/-- 40_step_and_commands.md R124: `CBIT` goes on, leaves the conditioning and detector registers alone, and adapts `thr_rel` from the ring's
average exactly when `CTL` asks. -/
def Obligations.CbitCompletesAndSparesTheDetector : Prop :=
  ∀ (s : State) (b : Bool), MachineInv s → s.halted = false →
    (∃ t, exec (.ctl b) s = .next t) ∧
    ∃ t, exec (.cbit b) s = .next t ∧
      t.dc = s.dc ∧ t.xh = s.xh ∧ t.yh = s.yh ∧ t.env1 = s.env1 ∧ t.env2 = s.env2 ∧ t.mbuf = s.mbuf ∧ t.mpos = s.mpos ∧
      t.msum = s.msum ∧ t.gate = s.gate ∧ t.cfg = s.cfg ∧ t.rom = s.rom ∧ t.halted = false ∧ t.input = s.input ∧
      t.draws = s.draws ∧ t.resetSeen = s.resetSeen ∧
      (t.wires.adapt = true ↔ (pushed b s.win).length = s.cfg.tplLen) ∧
      t.thrRel = (if t.wires.adapt then min s.cfg.thrOpen (max s.cfg.thrRelMin (s.msum / s.cfg.mavgLen * s.cfg.relNum / s.cfg.relDen))
        else s.thrRel)

/-! ## Conditioning -/

/-- 41_conditioning.md R141: the tracker, its range, its rest points, and what `hp` is. -/
def Obligations.DcBlockTracksTheMean : Prop :=
  ∀ (x : Int) (s : State), ∃ t, exec (.dcblock x) s = .next t ∧
    t = { s with dc := t.dc, wires := { s.wires with hp := t.wires.hp } } ∧
    t.dc = s.dc + Int.fdiv (x * 2 ^ s.cfg.frac - s.dc) (2 ^ s.cfg.dcShift) ∧
    t.wires.hp = x - Int.fdiv t.dc (2 ^ s.cfg.frac) ∧
    min s.dc (x * 2 ^ s.cfg.frac) ≤ t.dc ∧ t.dc ≤ max s.dc (x * 2 ^ s.cfg.frac) ∧
    (t.dc = s.dc ↔ 0 ≤ x * 2 ^ s.cfg.frac - s.dc ∧ x * 2 ^ s.cfg.frac - s.dc < 2 ^ s.cfg.dcShift) ∧
    (s.cfg.dcShift = 0 → t.wires.hp = 0) ∧
    (-32768 ≤ x → x ≤ 32767 → -32768 * 2 ^ s.cfg.frac ≤ s.dc → s.dc ≤ 32767 * 2 ^ s.cfg.frac →
      -65535 ≤ t.wires.hp ∧ t.wires.hp ≤ 65535)

/-- 41_conditioning.md R143 and R145: the direct form I filter and its histories; while `BPF_ERR` is not 0 the output is some signed
`SIG_W`-bit value, a fresh draw each time. The histories shift in either case (log entry 5 for the second). -/
def Obligations.FilterOutputAndHistories : Prop :=
  ∀ (hp : Int) (s : State), ∃ t, exec (.bpf hp) s = .next t ∧
    t = { s with xh := t.xh, yh := t.yh, draws := t.draws, wires := { s.wires with bp := t.wires.bp } } ∧
    (s.cfg.bpfErr = 0 → t.draws = s.draws ∧ t.wires.bp = sat s.cfg.sigW (rsh
      (((s.cfg.bpfB.zipWith (· * ·) (hp :: s.xh)).sum) - ((s.cfg.bpfA.zipWith (· * ·) s.yh).sum)) s.cfg.bpfFrac)) ∧
    (s.cfg.bpfErr ≠ 0 → t.draws = s.draws + 1) ∧
    -(2 ^ (s.cfg.sigW - 1)) ≤ t.wires.bp ∧ t.wires.bp ≤ 2 ^ (s.cfg.sigW - 1) - 1 ∧
    t.xh = (hp :: s.xh).take (s.cfg.bpfB.length - 1) ∧ t.yh = (t.wires.bp :: s.yh).take s.cfg.bpfA.length

/-- 41_conditioning.md R146: the pass-through configuration returns its input and keeps no history. -/
def Obligations.PassThroughReturnsItsInput : Prop :=
  ∀ (hp : Int) (s : State), s.cfg.bpfB = [2 ^ s.cfg.bpfFrac] → s.cfg.bpfA = [] → s.cfg.bpfErr = 0 → 18 ≤ s.cfg.sigW →
    -65535 ≤ hp → hp ≤ 65535 →
    exec (.bpf hp) s = .next { s with xh := [], yh := [], wires := { s.wires with bp := hp } }

/-- 41_conditioning.md R148: the follower's value, that it stays between the estimate and its target, when it rests, and how far off. -/
def Obligations.FollowerNeverOvershoots : Prop :=
  ∀ frac env a atk rel : Nat,
    let e := a * 2 ^ frac
    let f := follow frac env a atk rel
    (e > env → f = env + (e - env) / 2 ^ atk ∧ env ≤ f ∧ f ≤ e ∧ (f = env ↔ e - env < 2 ^ atk)) ∧
    (e ≤ env → f = env - (env - e) / 2 ^ rel ∧ e ≤ f ∧ f ≤ env ∧ (f = env ↔ env - e < 2 ^ rel)) ∧
    (f = env → (e > env → atk ≤ frac → e - env < 2 ^ frac) ∧ (e ≤ env → rel ≤ frac → env - e < 2 ^ frac))

/-- 41_conditioning.md R147 and 42_detector.md R161: the two envelope followers, their levels and ranges. -/
def Obligations.EnvelopesFollowTheirInput : Prop :=
  ∀ (v : Int) (s : State),
    (∃ t, exec (.env1 v) s = .next t ∧ t = { s with env1 := t.env1, wires := { s.wires with lvl := t.wires.lvl } } ∧
      t.env1 = follow s.cfg.frac s.env1 v.natAbs s.cfg.env1Atk s.cfg.env1Rel ∧
      t.wires.lvl = max (t.env1 / 2 ^ s.cfg.frac) s.cfg.envFloor ∧
      (s.env1 ≤ 2 ^ (s.cfg.sigW - 1) * 2 ^ s.cfg.frac → v.natAbs ≤ 2 ^ (s.cfg.sigW - 1) →
        t.env1 ≤ 2 ^ (s.cfg.sigW - 1) * 2 ^ s.cfg.frac ∧ s.cfg.envFloor ≤ t.wires.lvl ∧
        t.wires.lvl ≤ max s.cfg.envFloor (2 ^ (s.cfg.sigW - 1)))) ∧
    (∃ t, exec (.env2 v) s = .next t ∧ t = { s with env2 := t.env2, wires := { s.wires with lev2 := t.wires.lev2 } } ∧
      t.env2 = follow s.cfg.frac s.env2 v.natAbs s.cfg.env2Atk s.cfg.env2Rel ∧
      t.wires.lev2 = t.env2 / 2 ^ s.cfg.frac ∧
      (s.env2 ≤ 2 ^ (s.cfg.sigW - 1) * 2 ^ s.cfg.frac → v.natAbs ≤ 2 ^ (s.cfg.sigW - 1) →
        t.env2 ≤ 2 ^ (s.cfg.sigW - 1) * 2 ^ s.cfg.frac ∧ t.wires.lev2 ≤ 2 ^ (s.cfg.sigW - 1)))

/-- 41_conditioning.md R149: the normaliser's quotient truncates toward zero and saturates; 0 gives 0; it is odd where neither side saturates.
No state is written. A divisor 0 the rule excludes (log entry 12: the operation still completes). -/
def Obligations.NormaliserScalesByTarget : Prop :=
  ∀ (bp : Int) (lvl : Nat) (s : State), ∃ v, exec (.norm bp lvl) s = .next { s with wires := { s.wires with norm := v } } ∧
    -(2 ^ (s.cfg.sigW - 1)) ≤ v ∧ v ≤ 2 ^ (s.cfg.sigW - 1) - 1 ∧
    (0 < lvl →
      v = sat s.cfg.sigW (Int.tdiv (bp * s.cfg.target) lvl) ∧ (bp = 0 → v = 0) ∧
      (fitsSigned s.cfg.sigW (Int.tdiv (bp * s.cfg.target) lvl) = true →
        fitsSigned s.cfg.sigW (-(Int.tdiv (bp * s.cfg.target) lvl)) = true →
        exec (.norm (-bp) lvl) s = .next { s with wires := { s.wires with norm := -v } }))

/-! ## Detector -/

/-- 42_detector.md R163 and 20_memory.md R69: the ring, its sum and its average; an index outside the ring stops (log entry 10). -/
def Obligations.MovingAverageIsTheRingsMean : Prop :=
  ∀ (v : Nat) (s : State),
    (s.mpos < s.cfg.mavgLen → s.mbuf.length = s.cfg.mavgLen → s.msum = s.mbuf.sum →
      ∃ t, exec (.mavg v) s = .next t ∧
        t = { s with mbuf := t.mbuf, mpos := t.mpos, msum := t.msum, wires := { s.wires with mavg := t.wires.mavg } } ∧
        t.mbuf[s.mpos]? = some v ∧ (∀ i, i ≠ s.mpos → t.mbuf[i]? = s.mbuf[i]?) ∧
        t.mpos = (s.mpos + 1) % s.cfg.mavgLen ∧ t.msum = t.mbuf.sum ∧ t.wires.mavg = t.mbuf.sum / s.cfg.mavgLen ∧
        (s.cfg.mavgLen = 1 → t.wires.mavg = v)) ∧
    (s.cfg.mavgLen ≤ s.mpos → exec (.mavg v) s = .fault .ringIndexOutOfRange)

/-- 42_detector.md R165: the gate opens at `THR_OPEN`, closes below `thr_rel`, keeps its state between, and, `thr_rel` being at most `THR_OPEN`,
an open gate never closes at a level that would reopen it. -/
def Obligations.GateHasTwoThresholds : Prop :=
  ∀ (l : Nat) (s : State), ∃ g, exec (.gate l) s = .next { s with gate := g, wires := { s.wires with cbit := g } } ∧
    (s.gate = false → (g = true ↔ s.cfg.thrOpen ≤ l)) ∧
    (s.gate = true → (g = false ↔ l < s.thrRel)) ∧
    (s.thrRel ≤ s.cfg.thrOpen → s.gate = true → s.cfg.thrOpen ≤ l → g = true)

/-- 42_detector.md R167: the adapted threshold, clamped. -/
def Obligations.AdaptClampsTheThreshold : Prop :=
  ∀ (m : Nat) (s : State), ∃ r, exec (.adapt m) s = .next { s with thrRel := r } ∧
    r = min s.cfg.thrOpen (max s.cfg.thrRelMin (m * s.cfg.relNum / s.cfg.relDen)) ∧
    (s.cfg.valid = true → s.cfg.thrRelMin ≤ r ∧ r ≤ s.cfg.thrOpen ∧ (m = 0 → r = s.cfg.thrRelMin) ∧
      (s.cfg.relNum = s.cfg.relDen → s.cfg.thrOpen ≤ m → r = s.cfg.thrOpen))

/-- 20_memory.md R76: the carrier bit of a `SAMPLE` step is decided by the `thr_rel` that the steps before left. -/
def Obligations.GateReadsTheThresholdOfEarlierSteps : Prop :=
  ∀ (s t : State) (x : Int), s.halted = false → exec (.sample x) s = .next t →
    t.gate = (if s.gate then !decide (t.wires.lev2 < s.thrRel) else decide (s.cfg.thrOpen ≤ t.wires.lev2)) ∧
    t.thrRel = (if t.wires.adapt then min s.cfg.thrOpen (max s.cfg.thrRelMin (t.wires.mavg * s.cfg.relNum / s.cfg.relDen)) else s.thrRel)

/-! ## Templates and correlator -/

/-- 43_templates_correlator.md R181: what `TPLGEN` writes: `rep(1, ACT_t * SPB) ++ rep(0, GAP_t * SPB)` where the pair of block counts sums to
`TPL_BLOCKS`, as every pair of 00_scope.md R7 does, and for every pair the bits that `TplRead` gives below `TPL_LEN`; a configuration whose
`FS` is no multiple of 100 is refused before. The length and the bits for a pair that does not sum to `TPL_BLOCKS` are the model's reading
(log entry 15). -/
def Obligations.TplgenWritesActiveThenGap : Prop :=
  (∀ s : State, ∃ r, exec .tplgen s = .next { s with rom := r } ∧ ∀ n : Template,
    (s.cfg.act n + s.cfg.gap n = 100 →
      romTemplate r n = List.replicate (s.cfg.act n * s.cfg.spb) true ++ List.replicate (s.cfg.gap n * s.cfg.spb) false) ∧
    (romTemplate r n).length = s.cfg.tplLen ∧
    ∀ i, i < s.cfg.tplLen → tplRead r n i = some (decide (i < s.cfg.act n * s.cfg.spb))) ∧
  (∀ (c : Config) (s : State), c.fs % 100 ≠ 0 → exec (.reset c) s = .refused .illegalConfig)

/-- 43_templates_correlator.md R184: `MATCH` answers whether the number of `i < n` with `c[i] != TplRead(t, i)` is within the bound,
`n = min(len(c), TPL_LEN)`, and writes nothing else; the comparison of a template's bits and the one of the window that the controller
makes have the same answer. -/
def Obligations.MatchCountsMismatches : Prop :=
  ∀ (cand : List Bool) (n : Template) (s : State), s.rom = templateRom s.cfg →
    let mm := (List.range (min cand.length s.cfg.tplLen)).countP fun i => cand[i]? != tplRead s.rom n i
    let bound := s.cfg.tolNum * min cand.length s.cfg.tplLen / s.cfg.tolDen
    exec (.matchTpl cand n) s = .next { s with wires := { s.wires with matched := decide (mm ≤ bound) } } ∧
    matchBits s.cfg cand (templateBits s.cfg n) = decide (mm ≤ bound) ∧
    (cand = s.win → windowMatches s n = decide (mm ≤ bound))

/-- 43_templates_correlator.md R186: the comparison is symmetric, and a sequence with the bits at `k` positions inverted matches the original
exactly while `k` is within the bound. -/
def Obligations.MatchIsSymmetricAndMonotone : Prop :=
  (∀ (c : Config) (a b : List Bool), matchBits c a b = matchBits c b a) ∧
  (∀ (c : Config) (a : List Bool) (flips : List Nat), flips.Nodup → (∀ i ∈ flips, i < a.length) →
    matchBits c a (a.mapIdx fun i x => if i ∈ flips then !x else x) = decide (flips.length ≤ c.tolNum * a.length / c.tolDen))

/-- At the source's block counts and tolerance a full window matches at most one of `REF`, `ONE`, `ZERO`, while `REF` and `POS` are the same
bits (43_templates_correlator.md section 1). -/
def Obligations.NoWindowMatchesTwoTemplates : Prop :=
  ∀ c : Config, c.valid = true → ReferenceTemplates c →
    templateBits c .ref = templateBits c .pos ∧
    ∀ w : List Bool, w.length = c.tplLen →
      ¬ (matchBits c w (templateBits c .ref) = true ∧ matchBits c w (templateBits c .one) = true) ∧
      ¬ (matchBits c w (templateBits c .ref) = true ∧ matchBits c w (templateBits c .zero) = true) ∧
      ¬ (matchBits c w (templateBits c .one) = true ∧ matchBits c w (templateBits c .zero) = true)

/-! ## Window and frame -/

/-- 20_memory.md R63 and R67 within the capacities of 10_state.md R28 and R35; beyond them the model stops (log entry 10). -/
def Obligations.PushesWithinCapacity : Prop :=
  ∀ s : State,
    (exec (.wpush false) { s with win := [] } = .next { s with win := [] }) ∧
    (∀ b, s.win.length < s.cfg.tplLen → exec (.wpush b) s = .next { s with win := if s.win = [] ∧ b = false then [] else s.win ++ [b] }) ∧
    (∀ b, s.cfg.tplLen ≤ s.win.length → s.win ≠ [] → exec (.wpush b) s = .fault .windowOverflow) ∧
    (∀ y, s.frame.length < s.cfg.frameCap → exec (.fpush y) s = .next { s with frame := s.frame ++ [y] }) ∧
    (∀ y, s.cfg.frameCap ≤ s.frame.length → exec (.fpush y) s = .fault .frameOverflow)

/-- 20_memory.md R64, R66, R68. -/
def Obligations.RemovalsFromWindowAndFrame : Prop :=
  ∀ s : State,
    (∀ k, exec (.wpop k) s = .next { s with win := s.win.drop (min k s.win.length) }) ∧
    exec .wclear s = .next { s with win := [] } ∧
    exec .fclear s = .next { s with frame := [] }

/-- 20_memory.md R65: `WSTRIP` removes every leading 0 and stops at the first 1 or at the empty window. -/
def Obligations.WstripRemovesTheLeadingZeros : Prop :=
  ∀ s : State, ∃ n w, s.win = List.replicate n false ++ w ∧ (w = [] ∨ w.head? = some true) ∧ exec .wstrip s = .next { s with win := w }

/-! ## Controller -/

/-- 44_window_controller.md R201: `CTL` pushes, then runs the phase's operation if the window is full, and says so. -/
def Obligations.CtlPushesThenClassifies : Prop :=
  ∀ (b : Bool) (s : State), s.win.length < s.cfg.tplLen →
    let w := if s.win = [] ∧ b = false then [] else s.win ++ [b]
    exec (.ctl b) s =
      if w.length = s.cfg.tplLen then exec (phaseOp s.phase) { s with win := w, wires := { s.wires with adapt := true } }
      else .next { s with win := w, wires := { s.wires with adapt := false } }

/-- 44_window_controller.md R203: the three branches of `ACQ`, each with all it changes. The conditions are R184's counts against the
bound. -/
def Obligations.AcqTakesOneOfThreeBranches : Prop :=
  ∀ s : State, s.cfg.valid = true → s.rom = templateRom s.cfg → s.win.length = s.cfg.tplLen → s.phase = .acquiringFrame →
    (windowWithinTolerance s .ref = true → exec .acq s = .next { s with
      frame := [.ref], dbr := s.cfg.dbrFirst, pr := s.cfg.prInit, phase := .awaitingData, win := [], looking := false
      events := s.events ++ (if s.looking then [.sym .ref, .lock] else [.sym .ref]) }) ∧
    (windowWithinTolerance s .ref = false → s.looking = true →
      (windowWithinTolerance s .one = true ∨ windowWithinTolerance s .zero = true) →
      exec .acq s = .next { s with win := [], looking := false, events := s.events ++ [.lock] }) ∧
    (windowWithinTolerance s .ref = false →
      ¬ (s.looking = true ∧ (windowWithinTolerance s .one = true ∨ windowWithinTolerance s .zero = true)) →
      ∃ n w, s.win.tail = List.replicate n false ++ w ∧ (w = [] ∨ w.head? = some true) ∧ exec .acq s = .next { s with win := w })

/-- 44_window_controller.md R209: `DATA` stores and emits the symbol, counts down, and moves to `AwaitingPosition`, completes the frame, or
stays; a window that matches neither template is a loss of synchronisation. -/
def Obligations.DataClassifiesOneThenZero : Prop :=
  ∀ s : State, s.rom = templateRom s.cfg → s.phase = .awaitingData → s.win.length = s.cfg.tplLen → s.frame.length < s.cfg.frameCap →
    (∀ y, (windowWithinTolerance s .one = true ∧ y = .one ∨
        windowWithinTolerance s .one = false ∧ windowWithinTolerance s .zero = true ∧ y = .zero) →
      (1 < s.dbr → exec .data s = .next { s with
        frame := s.frame ++ [y], events := s.events ++ [.sym y], dbr := s.dbr - 1, win := [] }) ∧
      (s.dbr = 1 → 0 < s.pr → exec .data s = .next { s with
        frame := s.frame ++ [y], events := s.events ++ [.sym y], dbr := 0, phase := .awaitingPosition, win := [] }) ∧
      (s.dbr = 1 → s.pr = 0 → exec .data s = .next { s with
        frame := [], events := s.events ++ [.sym y, .time (decodeFrame s.cfg (s.frame ++ [y]))], dbr := 0
        phase := .acquiringFrame, win := [] })) ∧
    (windowWithinTolerance s .one = false → windowWithinTolerance s .zero = false → exec .data s = exec (.loss .dataSymbol) s)

/-- 44_window_controller.md R213: `POS` stores and emits `'P'` and resumes the data symbols, or loses synchronisation. -/
def Obligations.PosAcceptsTheMarkerOrLoses : Prop :=
  ∀ s : State, s.rom = templateRom s.cfg → s.phase = .awaitingPosition → s.win.length = s.cfg.tplLen → 1 ≤ s.pr → s.dbr = 0 →
    s.frame.length < s.cfg.frameCap →
    (windowWithinTolerance s .pos = true → exec .pos s = .next { s with
      frame := s.frame ++ [.pos], events := s.events ++ [.sym .pos], dbr := s.cfg.dbrNext, pr := s.pr - 1
      phase := .awaitingData, win := [] }) ∧
    (windowWithinTolerance s .pos = false → exec .pos s = exec (.loss .positionMarker) s)

/-- Outside the preconditions of `DATA` and `POS`, where a counter would go below 0, the model stops (log entry 11, the model's choice; no run
reaches it, 10_state.md section 6). -/
def Obligations.CountersStopAtZero : Prop :=
  ∀ s : State, s.rom = templateRom s.cfg → s.win.length = s.cfg.tplLen → s.frame.length < s.cfg.frameCap →
    (s.dbr = 0 → (windowWithinTolerance s .one = true ∨ windowWithinTolerance s .zero = true) → exec .data s = .fault .counterUnderflow) ∧
    (s.pr = 0 → windowWithinTolerance s .pos = true → exec .pos s = .fault .counterUnderflow)

/-- 44_window_controller.md R216: `TIME` with the frame's decoding, the frame cleared, the phase `AcquiringFrame`, lock retained. -/
def Obligations.FramedoneEmitsTheTime : Prop :=
  ∀ s : State, ∃ t, exec (.decode s.frame) s = .next t ∧
    exec .framedone s = .next { s with events := s.events ++ [.time t.wires.time], frame := [], phase := .acquiringFrame }

/-- 60_exceptions.md R264 and R269: what a loss of synchronisation writes, and that it writes and saves nothing else. -/
def Obligations.LossResetsTheController : Prop :=
  ∀ (q : LossCause) (s : State), exec (.loss q) s = .next { s with
    frame := [], phase := .acquiringFrame, looking := true, dbr := 0, win := [], events := s.events ++ [.loss q] }

/-- 45_timecode_decode.md R241: the four values of a 59-symbol frame; nothing but the result's wire is written. -/
def Obligations.DecodeWeighsTheSymbols : Prop :=
  ∀ (f : List Symbol) (s : State), f.length = 59 →
    let bit := fun i : Nat => if f.getD i .zero = .one then 1 else 0
    exec (.decode f) s = .next { s with wires := { s.wires with time :=
      { minute := 1 * bit 10 + 2 * bit 11 + 4 * bit 12 + 8 * bit 13 + 10 * bit 15 + 20 * bit 16 + 40 * bit 17
        hour := 1 * bit 20 + 2 * bit 21 + 4 * bit 22 + 8 * bit 23 + 10 * bit 25 + 20 * bit 26
        doy := 1 * bit 30 + 2 * bit 31 + 4 * bit 32 + 8 * bit 33 + 10 * bit 35 + 20 * bit 36 + 40 * bit 37 + 80 * bit 38
          + 100 * bit 40 + 200 * bit 41
        year := s.cfg.yearBase + 1 * bit 4 + 2 * bit 5 + 4 * bit 6 + 8 * bit 7 + 10 * bit 51 + 20 * bit 52 + 40 * bit 53
          + 80 * bit 54 } } }

/-- The ranges of the decoded values and the indices that are not read (45_timecode_decode.md, R242's list and the ranges derived from R241;
93_implementation_defined.md U12), for a frame of any length, open bits included (log entry 13). -/
def Obligations.DecodeRangesAndUnreadIndices : Prop :=
  (∀ (c : Config) (f : List Symbol), (decodeFrame c f).minute ≤ 85 ∧ (decodeFrame c f).hour ≤ 45 ∧ (decodeFrame c f).doy ≤ 465 ∧
    c.yearBase ≤ (decodeFrame c f).year ∧ (decodeFrame c f).year ≤ c.yearBase + 165) ∧
  (∀ (c : Config) (f g : List Symbol), f.length = 59 → g.length = 59 →
    (∀ i, f[i]? = g[i]? ∨ i ≤ 3 ∨ i = 8 ∨ i = 9 ∨ i = 14 ∨ i = 18 ∨ i = 19 ∨ i = 24 ∨ (27 ≤ i ∧ i ≤ 29) ∨ i = 34 ∨ i = 39 ∨
      (42 ≤ i ∧ i ≤ 50) ∨ 55 ≤ i) → decodeFrame c f = decodeFrame c g)

/-! ## The whole machine -/

/-- `RESET` with any legal configuration establishes the invariant, and `State.reset`, which is what `RESET` with the reference configuration
leaves with nothing presented or drawn (its coefficients: log entry 3), has it. -/
def Obligations.InvariantHoldsAfterReset : Prop :=
  (∀ (c : Config) (s : State), c.valid = true → ∃ t, exec (.reset c) s = .next t ∧ MachineInv t) ∧ MachineInv State.reset ∧
  (∀ s : State, s.input = [] → s.draws = 0 → exec (.reset Config.reference) s = .next State.reset)

/-- Every step keeps the invariant: ranges of the registers, the ring's sum, the window, the controller's relations (10_state.md R21 to R30,
R42). -/
def Obligations.StepKeepsTheInvariant : Prop := ∀ s t : State, MachineInv s → step s = .next t → MachineInv t

/-- 10_state.md R29, from every state whose window has it, whatever else the state holds. -/
def Obligations.WindowBeginsWithAOneAfterEveryStep : Prop :=
  ∀ s t : State, (s.win = [] ∨ s.win[0]? = some true) → step s = .next t → t.win = [] ∨ t.win[0]? = some true

/-- The step is total on states with the invariant after a `RESET`: it goes on unless a `RESET` with a configuration outside 00_scope.md R9 is
presented (40_step_and_commands.md section 3). No fault of the model is reached. -/
def Obligations.StepNeverStops : Prop :=
  ∀ s : State, MachineInv s → s.resetSeen = true →
    (∃ t, step s = .next t) ∨
    (∃ c cw rest, s.input = { rst := some c, cw := cw } :: rest ∧ c.valid = false ∧ step s = .refused .illegalConfig)

/-- 60_exceptions.md R268: the event lists a step can have, by command, phase and lock, in their order; at most two events. -/
def Obligations.EventListsOfAStep : Prop :=
  ∀ (i : Instr) (s t : State), (isCommand i = true ∨ ∃ c, i = .reset c) → exec i s = .next t →
    t.events.length ≤ 2 ∧
    (∀ c, i = .reset c → t.events = if c.bpfErr = 0 then [] else [.cfgerr c.bpfErr]) ∧
    (isCommand i = true → s.halted = true → t.events = []) ∧
    (i = .nop → t.events = []) ∧
    (i = .eos → s.halted = false → t.events = [.halt]) ∧
    (((∃ x, i = .sample x) ∨ ∃ b, i = .cbit b) → s.halted = false →
      (t.wires.adapt = false → t.events = []) ∧
      (t.wires.adapt = true → s.phase = .acquiringFrame → s.looking = true →
        t.events = [] ∨ t.events = [.sym .ref, .lock] ∨ t.events = [.lock]) ∧
      (t.wires.adapt = true → s.phase = .acquiringFrame → s.looking = false → t.events = [] ∨ t.events = [.sym .ref]) ∧
      (t.wires.adapt = true → s.phase = .awaitingData →
        t.events = [.loss .dataSymbol] ∨ ∃ y, (y = .one ∨ y = .zero) ∧
          t.events = if s.dbr = 1 ∧ s.pr = 0 then [.sym y, .time (decodeFrame s.cfg (s.frame ++ [y]))] else [.sym y]) ∧
      (t.wires.adapt = true → s.phase = .awaitingPosition → t.events = [.sym .pos] ∨ t.events = [.loss .positionMarker]))

/-- `LOCK` is emitted in exactly the steps in which `looking` goes from 1 to 0, and `looking` is set only with a `LOSS` event
(44_window_controller.md section 6). -/
def Obligations.LockIsTheFallOfLooking : Prop :=
  ∀ (i : Instr) (s t : State), isCommand i = true → exec i s = .next t →
    (.lock ∈ t.events ↔ s.looking = true ∧ t.looking = false) ∧
    (s.looking = false → t.looking = true → ∃ q, t.events = [.loss q]) ∧
    (∀ q, .loss q ∈ t.events → t.looking = true ∧ t.dbr = 0 ∧ t.frame = [] ∧ t.win = [] ∧ t.phase = .acquiringFrame ∧ t.pr = s.pr)

/-- 44_window_controller.md R202: `adapt` is 1 in exactly the steps in which a full window was classified, and `thr_rel` moves in no other. -/
def Obligations.AdaptOnlyAtFullWindows : Prop :=
  ∀ s t : State,
    (∀ b, exec (.ctl b) s = .next t → (t.wires.adapt = true ↔ (pushed b s.win).length = s.cfg.tplLen)) ∧
    (∀ b, s.halted = false → exec (.cbit b) s = .next t →
      (t.wires.adapt = true ↔ (pushed b s.win).length = s.cfg.tplLen) ∧ (t.wires.adapt = false → t.thrRel = s.thrRel)) ∧
    (∀ x, s.halted = false → exec (.sample x) s = .next t →
      (t.wires.adapt = true ↔ (pushed t.gate s.win).length = s.cfg.tplLen) ∧ (t.wires.adapt = false → t.thrRel = s.thrRel))

/-- Every change of phase, with its cause and what it leaves (the transition table of 44_window_controller.md section 7). -/
def Obligations.PhaseChangesFollowTheTable : Prop :=
  ∀ (i : Instr) (s t : State), isCommand i = true → exec i s = .next t → t.phase ≠ s.phase →
    t.win = [] ∧
    (s.phase = .acquiringFrame → t.phase = .awaitingData ∧ t.frame = [.ref] ∧ t.dbr = s.cfg.dbrFirst ∧ t.pr = s.cfg.prInit ∧
      t.looking = false ∧ t.events = if s.looking then [.sym .ref, .lock] else [.sym .ref]) ∧
    (s.phase = .awaitingData →
      (t.phase = .awaitingPosition ∧ s.dbr = 1 ∧ t.dbr = 0 ∧ 0 < s.pr ∧ t.pr = s.pr ∧ t.looking = s.looking ∧
        ∃ y, (y = .one ∨ y = .zero) ∧ t.frame = s.frame ++ [y] ∧ t.events = [.sym y]) ∨
      (t.phase = .acquiringFrame ∧ s.dbr = 1 ∧ t.dbr = 0 ∧ s.pr = 0 ∧ t.pr = 0 ∧ t.looking = s.looking ∧ t.frame = [] ∧
        ∃ y, (y = .one ∨ y = .zero) ∧ t.events = [.sym y, .time (decodeFrame s.cfg (s.frame ++ [y]))]) ∨
      (t.phase = .acquiringFrame ∧ t.looking = true ∧ t.dbr = 0 ∧ t.pr = s.pr ∧ t.frame = [] ∧ t.events = [.loss .dataSymbol])) ∧
    (s.phase = .awaitingPosition →
      (t.phase = .awaitingData ∧ t.dbr = s.cfg.dbrNext ∧ t.pr + 1 = s.pr ∧ t.looking = s.looking ∧ t.frame = s.frame ++ [.pos] ∧
        t.events = [.sym .pos]) ∨
      (t.phase = .acquiringFrame ∧ t.looking = true ∧ t.dbr = 0 ∧ t.pr = s.pr ∧ t.frame = [] ∧ t.events = [.loss .positionMarker]))

/-- Every symbol of the frame stands where the frame's layout puts it, after every step (44_window_controller.md, the layout table of
section 5). -/
def Obligations.FrameKeepsItsLayout : Prop :=
  ∀ s t : State, MachineInv s → FrameLayout s → step s = .next t → FrameLayout t

/-- Who writes what (10_state.md R21 to R37, R40): an element of the state changes only in an operation named here. -/
def Obligations.EachElementHasItsWriters : Prop :=
  ∀ (i : Instr) (s t : State), exec i s = .next t →
    (t.cfg = s.cfg ∨ mnemonic i ∈ ["RESET"]) ∧
    (t.rom = s.rom ∨ mnemonic i ∈ ["RESET", "TPLGEN"]) ∧
    (t.dc = s.dc ∨ mnemonic i ∈ ["RESET", "SAMPLE", "DCBLOCK"]) ∧
    (t.xh = s.xh ∧ t.yh = s.yh ∨ mnemonic i ∈ ["RESET", "SAMPLE", "BPF"]) ∧
    (t.env1 = s.env1 ∨ mnemonic i ∈ ["RESET", "SAMPLE", "ENV1"]) ∧
    (t.env2 = s.env2 ∨ mnemonic i ∈ ["RESET", "SAMPLE", "ENV2"]) ∧
    (t.mbuf = s.mbuf ∧ t.mpos = s.mpos ∧ t.msum = s.msum ∨ mnemonic i ∈ ["RESET", "SAMPLE", "MAVG"]) ∧
    (t.gate = s.gate ∨ mnemonic i ∈ ["RESET", "SAMPLE", "GATE"]) ∧
    (t.thrRel = s.thrRel ∨ mnemonic i ∈ ["RESET", "SAMPLE", "CBIT", "ADAPT"]) ∧
    (t.win = s.win ∨ mnemonic i ∈
      ["RESET", "SAMPLE", "CBIT", "CTL", "ACQ", "DATA", "POS", "LOSS", "WPUSH", "WPOP", "WSTRIP", "WCLEAR"]) ∧
    (t.frame = s.frame ∨ mnemonic i ∈
      ["RESET", "SAMPLE", "CBIT", "CTL", "ACQ", "DATA", "POS", "FRAMEDONE", "LOSS", "FPUSH", "FCLEAR"]) ∧
    (t.phase = s.phase ∨ mnemonic i ∈ ["RESET", "SAMPLE", "CBIT", "CTL", "ACQ", "DATA", "POS", "FRAMEDONE", "LOSS"]) ∧
    (t.dbr = s.dbr ∨ mnemonic i ∈ ["RESET", "SAMPLE", "CBIT", "CTL", "ACQ", "DATA", "POS", "LOSS"]) ∧
    (t.pr = s.pr ∨ mnemonic i ∈ ["RESET", "SAMPLE", "CBIT", "CTL", "ACQ", "POS"]) ∧
    (t.looking = s.looking ∨ mnemonic i ∈ ["RESET", "SAMPLE", "CBIT", "CTL", "ACQ", "DATA", "POS", "LOSS"]) ∧
    (t.halted = s.halted ∨ mnemonic i ∈ ["RESET", "EOS"]) ∧
    t.input = s.input

/-- Nothing a step leaves depends on the model's own wires: they are no state (10_state.md R20; log entry 6). -/
def Obligations.WiresAreNoState : Prop :=
  ∀ s s' : State, eraseWires s = eraseWires s' → eraseOutcome (step s) = eraseOutcome (step s')

/-! ## Many steps -/

/-- A stream of 0 bits into an empty window changes nothing, for ever (70_reset_and_hazards.md, the first hazard of section 3). -/
def Obligations.SilenceIsIgnoredForEver : Prop :=
  ∀ (n : Nat) (s : State), s.halted = false → s.resetSeen = true → s.win = [] → 0 < s.cfg.tplLen →
    s.input = List.replicate (n + 1) (bitInput false) →
    ∃ t, Host.Core.run core (n + 1) s = .next t ∧ eraseWires t = { eraseWires s with input := [], events := [] }

/-- A stream of 1 bits never locks: a window of 1 bits only slips, for ever, without an event (70_reset_and_hazards.md, the first hazard of
section 3), at the source's block counts and tolerance. -/
def Obligations.AllOnesNeverLocks : Prop :=
  ∀ (n : Nat) (s : State), s.cfg.valid = true → ReferenceTemplates s.cfg → s.rom = templateRom s.cfg → s.halted = false →
    s.resetSeen = true → s.phase = .acquiringFrame → s.events = [] → s.win = List.replicate (s.cfg.tplLen - 1) true →
    s.input = List.replicate n (bitInput true) →
    ∃ t, Host.Core.run core n s = .next t ∧ t.phase = .acquiringFrame ∧ t.looking = s.looking ∧ t.events = [] ∧
      t.win = s.win ∧ t.frame = s.frame ∧ t.dbr = s.dbr ∧ t.pr = s.pr

/-- `TPL_LEN` bits that begin with a 1, fed by `CBIT` into an empty window, are classified once, as one window, in the last of the steps, and
the threshold is adapted then (44_window_controller.md sections 1 to 4): the symbol-level step of the machine. -/
def Obligations.AFullWindowIsClassifiedOnce : Prop :=
  ∀ (s : State) (w : List Bool) (rest : List PortInput), s.cfg.valid = true → s.halted = false → s.resetSeen = true → s.win = [] →
    w.length = s.cfg.tplLen → w.head? = some true → s.input = w.map bitInput ++ rest →
    (∀ k, 0 < k → k < s.cfg.tplLen → ∃ t, Host.Core.run core k s = .next t ∧
      eraseWires t = { eraseWires s with win := w.take k, input := (w.drop k).map bitInput ++ rest, events := [] }) ∧
    (match exec (phaseOp s.phase) { s with win := w, input := rest, events := [], wires := { s.wires with adapt := true } } with
      | .next t => Host.Core.run core s.cfg.tplLen s = exec (.adapt (t.msum / t.cfg.mavgLen)) t
      | .fault f => Host.Core.run core s.cfg.tplLen s = .fault f
      | .refused r => Host.Core.run core s.cfg.tplLen s = .refused r)

/-- How the slip search realigns (44_window_controller.md section 2, derived there): a locked core fills its window with one data symbol of
`a` ones, and any bits `u` follow that begin with a 1. Each step up to the `a`-th slips by one and keeps the window one bit short of full;
from the `a`-th step on the window is exactly the bits of the next symbol, so that it is next full when that symbol's last bit comes. -/
def Obligations.SlipSearchRealigns : Prop :=
  ∀ (s : State) (n : Template) (u : List Bool) (rest : List PortInput), (n = .one ∨ n = .zero) → s.cfg.valid = true →
    ReferenceTemplates s.cfg → s.rom = templateRom s.cfg → s.halted = false → s.resetSeen = true → s.phase = .acquiringFrame →
    s.looking = false → s.win = (templateBits s.cfg n).take (s.cfg.tplLen - 1) →
    (u = [] ∨ u.head? = some true) → u.length < s.cfg.tplLen → s.input = bitInput false :: u.map bitInput ++ rest →
    let a := s.cfg.act n * s.cfg.spb
    ∃ t, Host.Core.run core (1 + u.length) s = .next t ∧
      t.win = (if 1 + u.length < a
        then List.replicate (a - (1 + u.length)) true ++ List.replicate (s.cfg.tplLen - a) false ++ u else u) ∧
      t.phase = .acquiringFrame ∧ t.looking = false ∧ t.frame = s.frame ∧ t.dbr = s.dbr ∧ t.pr = s.pr ∧ t.events = [] ∧ t.input = rest

/-- The bypass property: from a core that waits for a frame with an empty window, the templates of any frame of the layout of
44_window_controller.md section 5 (`'R'`, 8 data symbols, five times `'P'` and 9 data symbols), back to back through `CBIT`, end in the
`TIME` event of that frame's decoding, lock retained. -/
def Obligations.EveryPerfectFrameIsDecoded : Prop :=
  ∀ (s : State) (f : List Symbol) (rest : List PortInput), MachineInv s → s.halted = false → s.resetSeen = true →
    s.phase = .acquiringFrame → s.win = [] → ReferenceTemplates s.cfg → s.cfg.dbrFirst = 8 → s.cfg.dbrNext = 9 → s.cfg.prInit = 5 →
    f.length = 59 → (∀ i y, f[i]? = some y → frameSlotOk s.cfg i y) → s.input = symbolInputs s.cfg f ++ rest →
    ∃ t y, Host.Core.run core (59 * s.cfg.tplLen) s = .next t ∧ f.getLast? = some y ∧
      t.events = [.sym y, .time (decodeFrame s.cfg f)] ∧ t.phase = .acquiringFrame ∧ t.win = [] ∧ t.frame = [] ∧ t.dbr = 0 ∧
      t.pr = 0 ∧ t.looking = false ∧ t.input = rest

/-! ## Status fields -/

/-- The control and status fields CS0 to CS7, with the codes of the phase (10_state.md R31, R41), and the observation outputs (30_encoding.md
R104). There is no field of another index. -/
def Obligations.StatusFieldsHoldTheirElements : Prop :=
  ∀ s : State,
    (s.phase = .acquiringFrame → statusField s 0 = some 0) ∧ (s.phase = .awaitingData → statusField s 0 = some 1) ∧
    (s.phase = .awaitingPosition → statusField s 0 = some 2) ∧
    statusField s 1 = some s.dbr ∧ statusField s 2 = some s.pr ∧
    statusField s 3 = some (if s.looking then 1 else 0) ∧ statusField s 4 = some (if s.gate then 1 else 0) ∧
    statusField s 5 = some s.thrRel ∧ statusField s 6 = some (if s.halted then 1 else 0) ∧ statusField s 7 = some s.cfg.bpfErr.toNat ∧
    (∀ k, 8 ≤ k → statusField s k = none) ∧ carrierBit s = s.gate ∧ locked s = !s.looking
end

