-- ==== Sys2Proof/Laws/Arith.lean ====
section
/-! SUPPORT. The ranges of the arithmetic primitives (00_scope.md R11) and of the follower (41_conditioning.md R148). -/

namespace Sys2Proof.Machine

theorem fitsSigned_iff {n : Nat} {v : Int} : fitsSigned n v = true ↔ -(2 ^ (n - 1) : Int) ≤ v ∧ v < 2 ^ (n - 1) := by
  simp [fitsSigned]

/-- `sat_N` gives a signed `N`-bit value. -/
theorem sat_fits (n : Nat) (v : Int) : fitsSigned n (sat n v) = true := by
  have h : (0 : Int) < 2 ^ (n - 1) := by positivity
  rw [fitsSigned_iff]
  unfold sat
  split
  · omega
  · split <;> omega

/-- `sat_N` leaves a signed `N`-bit value alone. -/
theorem sat_of_fits {n : Nat} {v : Int} (h : fitsSigned n v = true) : sat n v = v := by
  rw [fitsSigned_iff] at h
  unfold sat
  split
  · omega
  · split <;> omega

theorem natAbs_le_of_fits {n : Nat} {v : Int} (h : fitsSigned n v = true) : v.natAbs ≤ 2 ^ (n - 1) := by
  rw [fitsSigned_iff] at h
  have : ((2 ^ (n - 1) : Nat) : Int) = 2 ^ (n - 1) := by norm_cast
  omega

/-- A wider signed range holds a narrower one. -/
theorem fits_mono {m n : Nat} (hmn : m ≤ n) {v : Int} (h : fitsSigned m v = true) : fitsSigned n v = true := by
  rw [fitsSigned_iff] at *
  have : (2 : Int) ^ (m - 1) ≤ 2 ^ (n - 1) := pow_le_pow_right₀ (by norm_num) (by omega)
  omega

theorem lsr_le (a k : Nat) : lsr a k ≤ a := Nat.div_le_self _ _

theorem lsr_eq_zero_iff {a k : Nat} : lsr a k = 0 ↔ a < 2 ^ k := by
  simp [lsr, Nat.div_eq_zero_iff]

/-- The follower stays between the old estimate and its target (41_conditioning.md R148). -/
theorem follow_between (frac env a atk rel : Nat) :
    min env (a * 2 ^ frac) ≤ follow frac env a atk rel ∧ follow frac env a atk rel ≤ max env (a * 2 ^ frac) := by
  have h1 := lsr_le (a * 2 ^ frac - env) atk
  have h2 := lsr_le (env - a * 2 ^ frac) rel
  unfold follow
  split <;> omega

/-- A bound of the estimate and of the input bounds the follower. -/
theorem follow_le {frac env a atk rel m : Nat} (henv : env ≤ m * 2 ^ frac) (ha : a ≤ m) :
    follow frac env a atk rel ≤ m * 2 ^ frac := by
  have := (follow_between frac env a atk rel).2
  have := Nat.mul_le_mul_right (2 ^ frac) ha
  omega

theorem lsr_le_of_le {env m frac : Nat} (h : env ≤ m * 2 ^ frac) : lsr env frac ≤ m := by
  unfold lsr
  exact Nat.div_le_of_le_mul (by rwa [Nat.mul_comm])

theorem asr_nonneg {a : Int} {k : Nat} (h : 0 ≤ a) : 0 ≤ asr a k := Int.ediv_nonneg h (by positivity)

theorem asr_le_self {a : Int} {k : Nat} (h : 0 ≤ a) : asr a k ≤ a := Int.ediv_le_self _ h

theorem asr_ge_self {a : Int} {k : Nat} (h : a ≤ 0) : a ≤ asr a k := by
  have hk : (0 : Int) < 2 ^ k := by positivity
  refine (Int.le_ediv_iff_mul_le hk).2 ?_
  nlinarith

theorem asr_nonpos {a : Int} {k : Nat} (h : a ≤ 0) : asr a k ≤ 0 := by
  have hk : (0 : Int) < 2 ^ k := by positivity
  exact (Int.ediv_le_iff_le_mul hk).2 (by linarith)

/-- The DC tracker stays between its old value and its input (41_conditioning.md R141). -/
theorem track_between (dc xs : Int) (k : Nat) :
    min dc xs ≤ dc + asr (xs - dc) k ∧ dc + asr (xs - dc) k ≤ max dc xs := by
  rcases le_total 0 (xs - dc) with h | h
  · have := asr_nonneg (k := k) h
    have := asr_le_self (k := k) h
    omega
  · have := asr_ge_self (k := k) h
    have := asr_nonpos (k := k) h
    omega

/-- Truncating division is Lean's, for a positive divisor. -/
theorem tdiv_eq_tdiv {a : Int} {b : Nat} (hb : b ≠ 0) : tdiv a b = Int.tdiv a b := by
  unfold tdiv
  rw [if_neg hb]
  split
  · rename_i h
    rw [Int.tdiv_eq_ediv_of_nonneg h]
  · rename_i h
    rw [← Int.tdiv_eq_ediv_of_nonneg (by omega), Int.neg_tdiv, neg_neg]

end Sys2Proof.Machine
end

