-- ==== Sys2Proof/Laws/Config.lean ====
section
/-! SUPPORT. What a legal configuration (00_scope.md R9) gives, and the shape of the templates (43_templates_correlator.md R181). -/

namespace Sys2Proof.Machine

variable {c : Config}

/-- The constraints of 00_scope.md R9 one by one. -/
theorem config_valid_iff : c.valid = true ↔
    (0 < c.fs ∧ c.fs % 100 = 0) ∧ (c.tolNum ≤ c.tolDen ∧ 0 < c.tolDen) ∧ 18 ≤ c.sigW
    ∧ (1 ≤ c.envFloor ∧ 1 ≤ c.target ∧ 1 ≤ c.mavgLen) ∧ (1 ≤ c.thrRelMin ∧ c.thrRelMin ≤ c.thrOpen)
    ∧ (c.thrRelMin ≤ c.thrRelInit ∧ c.thrRelInit ≤ c.thrOpen) ∧ 1 ≤ c.relDen ∧ 0 < c.bpfB.length
    ∧ (1 ≤ c.dbrFirst ∧ 1 ≤ c.dbrNext) ∧ c.frameLenAfter c.prInit ≤ c.frameCap := by
  simp only [Config.valid, Bool.and_eq_true, decide_eq_true_eq]
  tauto

theorem spb_pos (h : c.valid = true) : 0 < c.spb := by
  have := (config_valid_iff.1 h).1
  unfold Config.spb
  omega

theorem tplLen_ge (h : c.valid = true) : 100 ≤ c.tplLen := by
  have := spb_pos h
  simp only [Config.tplLen, tplBlocks]
  omega

/-- All four templates have `TPL_LEN` bits (10_state.md R37). -/
@[simp] theorem templateBits_length (c : Config) (t : Template) : (templateBits c t).length = c.tplLen := by
  simp only [templateBits, List.length_append, List.length_replicate]
  omega

/-- Every bit of a template (43_templates_correlator.md R181). -/
theorem templateBits_getElem? (c : Config) (t : Template) {i : Nat} (hi : i < c.tplLen) :
    (templateBits c t)[i]? = some (decide (i < c.act t * c.spb)) := by
  by_cases h : i < c.act t * c.spb
  · simp [templateBits, List.getElem?_append, h, hi]
  · simp [templateBits, List.getElem?_append, List.getElem?_replicate, h]
    omega

/-- A template whose pair sums to `TPL_BLOCKS` is its active run and then its gap (43_templates_correlator.md R181). -/
theorem templateBits_eq_replicate {c : Config} {t : Template} (h : c.act t + c.gap t = tplBlocks) :
    templateBits c t = List.replicate (c.act t * c.spb) true ++ List.replicate (c.gap t * c.spb) false := by
  have hl : c.tplLen = c.act t * c.spb + c.gap t * c.spb := by rw [Config.tplLen, ← h, Nat.add_mul]
  rw [templateBits, hl, Nat.min_eq_left (Nat.le_add_right _ _), Nat.add_sub_cancel_left]

@[simp] theorem romTemplate_templateRom (c : Config) (t : Template) : romTemplate (templateRom c) t = templateBits c t := by
  cases t <;> rfl

end Sys2Proof.Machine
end

