-- ==== Sys2Proof/Laws/Match.lean ====
section
/-! SUPPORT. The correlator counts mismatches; the short circuit changes nothing (43_templates_correlator.md R184). -/

namespace Sys2Proof.Machine

@[simp] theorem mismatches_nil_left (b : List Bool) : mismatches [] b = 0 := rfl

@[simp] theorem mismatches_nil_right (a : List Bool) : mismatches a [] = 0 := by simp [mismatches]

@[simp] theorem mismatches_cons (x y : Bool) (a b : List Bool) :
    mismatches (x :: a) (y :: b) = mismatches a b + (if x = y then 0 else 1) := by
  cases x <;> cases y <;> simp [mismatches]

theorem mismatches_comm (a b : List Bool) : mismatches a b = mismatches b a := by
  induction a generalizing b with
  | nil => simp
  | cons x a ih => cases b with
    | nil => simp
    | cons y b => simp [ih b, eq_comm]

@[simp] theorem mismatches_self (a : List Bool) : mismatches a a = 0 := by
  induction a with
  | nil => rfl
  | cons x a ih => simp [ih]

/-- Two sequences of one length differ in no more positions than by way of a third. -/
theorem mismatches_triangle (a b w : List Bool) (ha : a.length = w.length) (hb : b.length = w.length) :
    mismatches a b ≤ mismatches w a + mismatches w b := by
  induction w generalizing a b with
  | nil => simp [List.length_eq_zero_iff.1 ha]
  | cons z w ih =>
    match a, b, ha, hb with
    | x :: a, y :: b, ha, hb =>
      have := ih a b (by simpa using ha) (by simpa using hb)
      cases x <;> cases y <;> cases z <;> simp <;> omega

/-- The loop answers whether the count stays within the bound. -/
theorem matchLoop_eq (bound : Nat) (a b : List Bool) (mm : Nat) (h : mm ≤ bound) :
    matchLoop bound mm a b = decide (mm + mismatches a b ≤ bound) := by
  induction a generalizing b mm with
  | nil => simp [matchLoop, h]
  | cons x a ih => cases b with
    | nil => simp [matchLoop, h]
    | cons y b =>
      by_cases hxy : x = y
      · simp [matchLoop, hxy, ih b mm h]
      · by_cases hm : mm + 1 > bound
        · simp only [matchLoop, hxy, if_false, hm, if_true, mismatches_cons]
          simp; omega
        · simp only [matchLoop, hxy, if_false, hm, mismatches_cons]
          rw [ih b (mm + 1) (by omega)]
          congr 1
          simp; omega

/-- `MATCH` is the count of differing positions against the bound (43_templates_correlator.md R184). -/
theorem matchBits_eq (c : Config) (a b : List Bool) :
    matchBits c a b = decide (mismatches a b ≤ matchBound c (min a.length b.length)) := by
  simp [matchBits, matchLoop_eq]

/-- The mismatches of two sequences, counted by index over the common prefix. -/
theorem mismatches_eq_countP (a b : List Bool) :
    mismatches a b = (List.range (min a.length b.length)).countP (fun i => a[i]? != b[i]?) := by
  induction a generalizing b with
  | nil => simp
  | cons x a ih => cases b with
    | nil => simp
    | cons y b =>
      have hcomp : ((fun i => (x :: a)[i]? != (y :: b)[i]?) ∘ Nat.succ) = fun i => a[i]? != b[i]? := by
        funext i
        simp
      rw [mismatches_cons, ih, List.length_cons, List.length_cons, Nat.succ_min_succ, List.range_succ_eq_map, List.countP_cons,
        List.countP_map, hcomp]
      cases x <;> cases y <;> simp

/-- At a full window and with the ROM of the configuration, the correlator's answer is R184's count against the bound. -/
theorem windowMatches_eq {s : State} {t : Template} (hrom : s.rom = templateRom s.cfg) (hlen : s.win.length = s.cfg.tplLen) :
    windowMatches s t = windowWithinTolerance s t := by
  rw [windowMatches, matchBits_eq, mismatches_eq_countP, hrom, romTemplate_templateRom, templateBits_length, hlen, Nat.min_self]
  simp only [windowWithinTolerance, tplRead, hrom, romTemplate_templateRom, matchBound]
  rfl

/-- A template's bits match their template. -/
theorem matchBits_self (c : Config) (a : List Bool) : matchBits c a a = true := by
  simp [matchBits_eq]

end Sys2Proof.Machine
end

