-- ==== Sys2Proof/Laws/State.lean ====
section
/-! SUPPORT. One lemma per field per named update of State: what the update leaves in the field. -/

namespace Sys2Proof.Machine

@[simp] theorem beginStep_cfg (s : State) : (beginStep s).cfg = s.cfg := rfl
@[simp] theorem beginStep_rom (s : State) : (beginStep s).rom = s.rom := rfl
@[simp] theorem beginStep_dc (s : State) : (beginStep s).dc = s.dc := rfl
@[simp] theorem beginStep_xh (s : State) : (beginStep s).xh = s.xh := rfl
@[simp] theorem beginStep_yh (s : State) : (beginStep s).yh = s.yh := rfl
@[simp] theorem beginStep_env1 (s : State) : (beginStep s).env1 = s.env1 := rfl
@[simp] theorem beginStep_env2 (s : State) : (beginStep s).env2 = s.env2 := rfl
@[simp] theorem beginStep_mbuf (s : State) : (beginStep s).mbuf = s.mbuf := rfl
@[simp] theorem beginStep_mpos (s : State) : (beginStep s).mpos = s.mpos := rfl
@[simp] theorem beginStep_msum (s : State) : (beginStep s).msum = s.msum := rfl
@[simp] theorem beginStep_gate (s : State) : (beginStep s).gate = s.gate := rfl
@[simp] theorem beginStep_thrRel (s : State) : (beginStep s).thrRel = s.thrRel := rfl
@[simp] theorem beginStep_win (s : State) : (beginStep s).win = s.win := rfl
@[simp] theorem beginStep_phase (s : State) : (beginStep s).phase = s.phase := rfl
@[simp] theorem beginStep_dbr (s : State) : (beginStep s).dbr = s.dbr := rfl
@[simp] theorem beginStep_pr (s : State) : (beginStep s).pr = s.pr := rfl
@[simp] theorem beginStep_looking (s : State) : (beginStep s).looking = s.looking := rfl
@[simp] theorem beginStep_frame (s : State) : (beginStep s).frame = s.frame := rfl
@[simp] theorem beginStep_halted (s : State) : (beginStep s).halted = s.halted := rfl
@[simp] theorem beginStep_input (s : State) : (beginStep s).input = s.input := rfl
@[simp] theorem beginStep_events (s : State) : (beginStep s).events = [] := rfl
@[simp] theorem beginStep_wires (s : State) : (beginStep s).wires = s.wires := rfl
@[simp] theorem beginStep_draws (s : State) : (beginStep s).draws = s.draws := rfl
@[simp] theorem beginStep_resetSeen (s : State) : (beginStep s).resetSeen = s.resetSeen := rfl

@[simp] theorem emit_cfg (e : Event) (s : State) : (emit e s).cfg = s.cfg := rfl
@[simp] theorem emit_rom (e : Event) (s : State) : (emit e s).rom = s.rom := rfl
@[simp] theorem emit_dc (e : Event) (s : State) : (emit e s).dc = s.dc := rfl
@[simp] theorem emit_xh (e : Event) (s : State) : (emit e s).xh = s.xh := rfl
@[simp] theorem emit_yh (e : Event) (s : State) : (emit e s).yh = s.yh := rfl
@[simp] theorem emit_env1 (e : Event) (s : State) : (emit e s).env1 = s.env1 := rfl
@[simp] theorem emit_env2 (e : Event) (s : State) : (emit e s).env2 = s.env2 := rfl
@[simp] theorem emit_mbuf (e : Event) (s : State) : (emit e s).mbuf = s.mbuf := rfl
@[simp] theorem emit_mpos (e : Event) (s : State) : (emit e s).mpos = s.mpos := rfl
@[simp] theorem emit_msum (e : Event) (s : State) : (emit e s).msum = s.msum := rfl
@[simp] theorem emit_gate (e : Event) (s : State) : (emit e s).gate = s.gate := rfl
@[simp] theorem emit_thrRel (e : Event) (s : State) : (emit e s).thrRel = s.thrRel := rfl
@[simp] theorem emit_win (e : Event) (s : State) : (emit e s).win = s.win := rfl
@[simp] theorem emit_phase (e : Event) (s : State) : (emit e s).phase = s.phase := rfl
@[simp] theorem emit_dbr (e : Event) (s : State) : (emit e s).dbr = s.dbr := rfl
@[simp] theorem emit_pr (e : Event) (s : State) : (emit e s).pr = s.pr := rfl
@[simp] theorem emit_looking (e : Event) (s : State) : (emit e s).looking = s.looking := rfl
@[simp] theorem emit_frame (e : Event) (s : State) : (emit e s).frame = s.frame := rfl
@[simp] theorem emit_halted (e : Event) (s : State) : (emit e s).halted = s.halted := rfl
@[simp] theorem emit_input (e : Event) (s : State) : (emit e s).input = s.input := rfl
@[simp] theorem emit_events (e : Event) (s : State) : (emit e s).events = s.events ++ [e] := rfl
@[simp] theorem emit_wires (e : Event) (s : State) : (emit e s).wires = s.wires := rfl
@[simp] theorem emit_draws (e : Event) (s : State) : (emit e s).draws = s.draws := rfl
@[simp] theorem emit_resetSeen (e : Event) (s : State) : (emit e s).resetSeen = s.resetSeen := rfl

@[simp] theorem windowPop_cfg (k : Nat) (s : State) : (windowPop k s).cfg = s.cfg := rfl
@[simp] theorem windowPop_rom (k : Nat) (s : State) : (windowPop k s).rom = s.rom := rfl
@[simp] theorem windowPop_dc (k : Nat) (s : State) : (windowPop k s).dc = s.dc := rfl
@[simp] theorem windowPop_xh (k : Nat) (s : State) : (windowPop k s).xh = s.xh := rfl
@[simp] theorem windowPop_yh (k : Nat) (s : State) : (windowPop k s).yh = s.yh := rfl
@[simp] theorem windowPop_env1 (k : Nat) (s : State) : (windowPop k s).env1 = s.env1 := rfl
@[simp] theorem windowPop_env2 (k : Nat) (s : State) : (windowPop k s).env2 = s.env2 := rfl
@[simp] theorem windowPop_mbuf (k : Nat) (s : State) : (windowPop k s).mbuf = s.mbuf := rfl
@[simp] theorem windowPop_mpos (k : Nat) (s : State) : (windowPop k s).mpos = s.mpos := rfl
@[simp] theorem windowPop_msum (k : Nat) (s : State) : (windowPop k s).msum = s.msum := rfl
@[simp] theorem windowPop_gate (k : Nat) (s : State) : (windowPop k s).gate = s.gate := rfl
@[simp] theorem windowPop_thrRel (k : Nat) (s : State) : (windowPop k s).thrRel = s.thrRel := rfl
@[simp] theorem windowPop_win (k : Nat) (s : State) : (windowPop k s).win = s.win.drop k := rfl
@[simp] theorem windowPop_phase (k : Nat) (s : State) : (windowPop k s).phase = s.phase := rfl
@[simp] theorem windowPop_dbr (k : Nat) (s : State) : (windowPop k s).dbr = s.dbr := rfl
@[simp] theorem windowPop_pr (k : Nat) (s : State) : (windowPop k s).pr = s.pr := rfl
@[simp] theorem windowPop_looking (k : Nat) (s : State) : (windowPop k s).looking = s.looking := rfl
@[simp] theorem windowPop_frame (k : Nat) (s : State) : (windowPop k s).frame = s.frame := rfl
@[simp] theorem windowPop_halted (k : Nat) (s : State) : (windowPop k s).halted = s.halted := rfl
@[simp] theorem windowPop_input (k : Nat) (s : State) : (windowPop k s).input = s.input := rfl
@[simp] theorem windowPop_events (k : Nat) (s : State) : (windowPop k s).events = s.events := rfl
@[simp] theorem windowPop_wires (k : Nat) (s : State) : (windowPop k s).wires = s.wires := rfl
@[simp] theorem windowPop_draws (k : Nat) (s : State) : (windowPop k s).draws = s.draws := rfl
@[simp] theorem windowPop_resetSeen (k : Nat) (s : State) : (windowPop k s).resetSeen = s.resetSeen := rfl

@[simp] theorem windowStrip_cfg (s : State) : (windowStrip s).cfg = s.cfg := rfl
@[simp] theorem windowStrip_rom (s : State) : (windowStrip s).rom = s.rom := rfl
@[simp] theorem windowStrip_dc (s : State) : (windowStrip s).dc = s.dc := rfl
@[simp] theorem windowStrip_xh (s : State) : (windowStrip s).xh = s.xh := rfl
@[simp] theorem windowStrip_yh (s : State) : (windowStrip s).yh = s.yh := rfl
@[simp] theorem windowStrip_env1 (s : State) : (windowStrip s).env1 = s.env1 := rfl
@[simp] theorem windowStrip_env2 (s : State) : (windowStrip s).env2 = s.env2 := rfl
@[simp] theorem windowStrip_mbuf (s : State) : (windowStrip s).mbuf = s.mbuf := rfl
@[simp] theorem windowStrip_mpos (s : State) : (windowStrip s).mpos = s.mpos := rfl
@[simp] theorem windowStrip_msum (s : State) : (windowStrip s).msum = s.msum := rfl
@[simp] theorem windowStrip_gate (s : State) : (windowStrip s).gate = s.gate := rfl
@[simp] theorem windowStrip_thrRel (s : State) : (windowStrip s).thrRel = s.thrRel := rfl
@[simp] theorem windowStrip_win (s : State) : (windowStrip s).win = stripZeros s.win := rfl
@[simp] theorem windowStrip_phase (s : State) : (windowStrip s).phase = s.phase := rfl
@[simp] theorem windowStrip_dbr (s : State) : (windowStrip s).dbr = s.dbr := rfl
@[simp] theorem windowStrip_pr (s : State) : (windowStrip s).pr = s.pr := rfl
@[simp] theorem windowStrip_looking (s : State) : (windowStrip s).looking = s.looking := rfl
@[simp] theorem windowStrip_frame (s : State) : (windowStrip s).frame = s.frame := rfl
@[simp] theorem windowStrip_halted (s : State) : (windowStrip s).halted = s.halted := rfl
@[simp] theorem windowStrip_input (s : State) : (windowStrip s).input = s.input := rfl
@[simp] theorem windowStrip_events (s : State) : (windowStrip s).events = s.events := rfl
@[simp] theorem windowStrip_wires (s : State) : (windowStrip s).wires = s.wires := rfl
@[simp] theorem windowStrip_draws (s : State) : (windowStrip s).draws = s.draws := rfl
@[simp] theorem windowStrip_resetSeen (s : State) : (windowStrip s).resetSeen = s.resetSeen := rfl

@[simp] theorem windowClear_cfg (s : State) : (windowClear s).cfg = s.cfg := rfl
@[simp] theorem windowClear_rom (s : State) : (windowClear s).rom = s.rom := rfl
@[simp] theorem windowClear_dc (s : State) : (windowClear s).dc = s.dc := rfl
@[simp] theorem windowClear_xh (s : State) : (windowClear s).xh = s.xh := rfl
@[simp] theorem windowClear_yh (s : State) : (windowClear s).yh = s.yh := rfl
@[simp] theorem windowClear_env1 (s : State) : (windowClear s).env1 = s.env1 := rfl
@[simp] theorem windowClear_env2 (s : State) : (windowClear s).env2 = s.env2 := rfl
@[simp] theorem windowClear_mbuf (s : State) : (windowClear s).mbuf = s.mbuf := rfl
@[simp] theorem windowClear_mpos (s : State) : (windowClear s).mpos = s.mpos := rfl
@[simp] theorem windowClear_msum (s : State) : (windowClear s).msum = s.msum := rfl
@[simp] theorem windowClear_gate (s : State) : (windowClear s).gate = s.gate := rfl
@[simp] theorem windowClear_thrRel (s : State) : (windowClear s).thrRel = s.thrRel := rfl
@[simp] theorem windowClear_win (s : State) : (windowClear s).win = [] := rfl
@[simp] theorem windowClear_phase (s : State) : (windowClear s).phase = s.phase := rfl
@[simp] theorem windowClear_dbr (s : State) : (windowClear s).dbr = s.dbr := rfl
@[simp] theorem windowClear_pr (s : State) : (windowClear s).pr = s.pr := rfl
@[simp] theorem windowClear_looking (s : State) : (windowClear s).looking = s.looking := rfl
@[simp] theorem windowClear_frame (s : State) : (windowClear s).frame = s.frame := rfl
@[simp] theorem windowClear_halted (s : State) : (windowClear s).halted = s.halted := rfl
@[simp] theorem windowClear_input (s : State) : (windowClear s).input = s.input := rfl
@[simp] theorem windowClear_events (s : State) : (windowClear s).events = s.events := rfl
@[simp] theorem windowClear_wires (s : State) : (windowClear s).wires = s.wires := rfl
@[simp] theorem windowClear_draws (s : State) : (windowClear s).draws = s.draws := rfl
@[simp] theorem windowClear_resetSeen (s : State) : (windowClear s).resetSeen = s.resetSeen := rfl

@[simp] theorem frameClear_cfg (s : State) : (frameClear s).cfg = s.cfg := rfl
@[simp] theorem frameClear_rom (s : State) : (frameClear s).rom = s.rom := rfl
@[simp] theorem frameClear_dc (s : State) : (frameClear s).dc = s.dc := rfl
@[simp] theorem frameClear_xh (s : State) : (frameClear s).xh = s.xh := rfl
@[simp] theorem frameClear_yh (s : State) : (frameClear s).yh = s.yh := rfl
@[simp] theorem frameClear_env1 (s : State) : (frameClear s).env1 = s.env1 := rfl
@[simp] theorem frameClear_env2 (s : State) : (frameClear s).env2 = s.env2 := rfl
@[simp] theorem frameClear_mbuf (s : State) : (frameClear s).mbuf = s.mbuf := rfl
@[simp] theorem frameClear_mpos (s : State) : (frameClear s).mpos = s.mpos := rfl
@[simp] theorem frameClear_msum (s : State) : (frameClear s).msum = s.msum := rfl
@[simp] theorem frameClear_gate (s : State) : (frameClear s).gate = s.gate := rfl
@[simp] theorem frameClear_thrRel (s : State) : (frameClear s).thrRel = s.thrRel := rfl
@[simp] theorem frameClear_win (s : State) : (frameClear s).win = s.win := rfl
@[simp] theorem frameClear_phase (s : State) : (frameClear s).phase = s.phase := rfl
@[simp] theorem frameClear_dbr (s : State) : (frameClear s).dbr = s.dbr := rfl
@[simp] theorem frameClear_pr (s : State) : (frameClear s).pr = s.pr := rfl
@[simp] theorem frameClear_looking (s : State) : (frameClear s).looking = s.looking := rfl
@[simp] theorem frameClear_frame (s : State) : (frameClear s).frame = [] := rfl
@[simp] theorem frameClear_halted (s : State) : (frameClear s).halted = s.halted := rfl
@[simp] theorem frameClear_input (s : State) : (frameClear s).input = s.input := rfl
@[simp] theorem frameClear_events (s : State) : (frameClear s).events = s.events := rfl
@[simp] theorem frameClear_wires (s : State) : (frameClear s).wires = s.wires := rfl
@[simp] theorem frameClear_draws (s : State) : (frameClear s).draws = s.draws := rfl
@[simp] theorem frameClear_resetSeen (s : State) : (frameClear s).resetSeen = s.resetSeen := rfl

@[simp] theorem raiseLoss_cfg (q : LossCause) (s : State) : (raiseLoss q s).cfg = s.cfg := rfl
@[simp] theorem raiseLoss_rom (q : LossCause) (s : State) : (raiseLoss q s).rom = s.rom := rfl
@[simp] theorem raiseLoss_dc (q : LossCause) (s : State) : (raiseLoss q s).dc = s.dc := rfl
@[simp] theorem raiseLoss_xh (q : LossCause) (s : State) : (raiseLoss q s).xh = s.xh := rfl
@[simp] theorem raiseLoss_yh (q : LossCause) (s : State) : (raiseLoss q s).yh = s.yh := rfl
@[simp] theorem raiseLoss_env1 (q : LossCause) (s : State) : (raiseLoss q s).env1 = s.env1 := rfl
@[simp] theorem raiseLoss_env2 (q : LossCause) (s : State) : (raiseLoss q s).env2 = s.env2 := rfl
@[simp] theorem raiseLoss_mbuf (q : LossCause) (s : State) : (raiseLoss q s).mbuf = s.mbuf := rfl
@[simp] theorem raiseLoss_mpos (q : LossCause) (s : State) : (raiseLoss q s).mpos = s.mpos := rfl
@[simp] theorem raiseLoss_msum (q : LossCause) (s : State) : (raiseLoss q s).msum = s.msum := rfl
@[simp] theorem raiseLoss_gate (q : LossCause) (s : State) : (raiseLoss q s).gate = s.gate := rfl
@[simp] theorem raiseLoss_thrRel (q : LossCause) (s : State) : (raiseLoss q s).thrRel = s.thrRel := rfl
@[simp] theorem raiseLoss_win (q : LossCause) (s : State) : (raiseLoss q s).win = [] := rfl
@[simp] theorem raiseLoss_phase (q : LossCause) (s : State) : (raiseLoss q s).phase = .acquiringFrame := rfl
@[simp] theorem raiseLoss_dbr (q : LossCause) (s : State) : (raiseLoss q s).dbr = 0 := rfl
@[simp] theorem raiseLoss_pr (q : LossCause) (s : State) : (raiseLoss q s).pr = s.pr := rfl
@[simp] theorem raiseLoss_looking (q : LossCause) (s : State) : (raiseLoss q s).looking = true := rfl
@[simp] theorem raiseLoss_frame (q : LossCause) (s : State) : (raiseLoss q s).frame = [] := rfl
@[simp] theorem raiseLoss_halted (q : LossCause) (s : State) : (raiseLoss q s).halted = s.halted := rfl
@[simp] theorem raiseLoss_input (q : LossCause) (s : State) : (raiseLoss q s).input = s.input := rfl
@[simp] theorem raiseLoss_events (q : LossCause) (s : State) : (raiseLoss q s).events = s.events ++ [.loss q] := rfl
@[simp] theorem raiseLoss_wires (q : LossCause) (s : State) : (raiseLoss q s).wires = s.wires := rfl
@[simp] theorem raiseLoss_draws (q : LossCause) (s : State) : (raiseLoss q s).draws = s.draws := rfl
@[simp] theorem raiseLoss_resetSeen (q : LossCause) (s : State) : (raiseLoss q s).resetSeen = s.resetSeen := rfl

@[simp] theorem setAdapt_cfg (b : Bool) (s : State) : (setAdapt b s).cfg = s.cfg := rfl
@[simp] theorem setAdapt_rom (b : Bool) (s : State) : (setAdapt b s).rom = s.rom := rfl
@[simp] theorem setAdapt_dc (b : Bool) (s : State) : (setAdapt b s).dc = s.dc := rfl
@[simp] theorem setAdapt_xh (b : Bool) (s : State) : (setAdapt b s).xh = s.xh := rfl
@[simp] theorem setAdapt_yh (b : Bool) (s : State) : (setAdapt b s).yh = s.yh := rfl
@[simp] theorem setAdapt_env1 (b : Bool) (s : State) : (setAdapt b s).env1 = s.env1 := rfl
@[simp] theorem setAdapt_env2 (b : Bool) (s : State) : (setAdapt b s).env2 = s.env2 := rfl
@[simp] theorem setAdapt_mbuf (b : Bool) (s : State) : (setAdapt b s).mbuf = s.mbuf := rfl
@[simp] theorem setAdapt_mpos (b : Bool) (s : State) : (setAdapt b s).mpos = s.mpos := rfl
@[simp] theorem setAdapt_msum (b : Bool) (s : State) : (setAdapt b s).msum = s.msum := rfl
@[simp] theorem setAdapt_gate (b : Bool) (s : State) : (setAdapt b s).gate = s.gate := rfl
@[simp] theorem setAdapt_thrRel (b : Bool) (s : State) : (setAdapt b s).thrRel = s.thrRel := rfl
@[simp] theorem setAdapt_win (b : Bool) (s : State) : (setAdapt b s).win = s.win := rfl
@[simp] theorem setAdapt_phase (b : Bool) (s : State) : (setAdapt b s).phase = s.phase := rfl
@[simp] theorem setAdapt_dbr (b : Bool) (s : State) : (setAdapt b s).dbr = s.dbr := rfl
@[simp] theorem setAdapt_pr (b : Bool) (s : State) : (setAdapt b s).pr = s.pr := rfl
@[simp] theorem setAdapt_looking (b : Bool) (s : State) : (setAdapt b s).looking = s.looking := rfl
@[simp] theorem setAdapt_frame (b : Bool) (s : State) : (setAdapt b s).frame = s.frame := rfl
@[simp] theorem setAdapt_halted (b : Bool) (s : State) : (setAdapt b s).halted = s.halted := rfl
@[simp] theorem setAdapt_input (b : Bool) (s : State) : (setAdapt b s).input = s.input := rfl
@[simp] theorem setAdapt_events (b : Bool) (s : State) : (setAdapt b s).events = s.events := rfl
@[simp] theorem setAdapt_wires (b : Bool) (s : State) : (setAdapt b s).wires = { s.wires with adapt := b } := rfl
@[simp] theorem setAdapt_draws (b : Bool) (s : State) : (setAdapt b s).draws = s.draws := rfl
@[simp] theorem setAdapt_resetSeen (b : Bool) (s : State) : (setAdapt b s).resetSeen = s.resetSeen := rfl

@[simp] theorem averageOut_cfg (s : State) : (averageOut s).cfg = s.cfg := rfl
@[simp] theorem averageOut_rom (s : State) : (averageOut s).rom = s.rom := rfl
@[simp] theorem averageOut_dc (s : State) : (averageOut s).dc = s.dc := rfl
@[simp] theorem averageOut_xh (s : State) : (averageOut s).xh = s.xh := rfl
@[simp] theorem averageOut_yh (s : State) : (averageOut s).yh = s.yh := rfl
@[simp] theorem averageOut_env1 (s : State) : (averageOut s).env1 = s.env1 := rfl
@[simp] theorem averageOut_env2 (s : State) : (averageOut s).env2 = s.env2 := rfl
@[simp] theorem averageOut_mbuf (s : State) : (averageOut s).mbuf = s.mbuf := rfl
@[simp] theorem averageOut_mpos (s : State) : (averageOut s).mpos = s.mpos := rfl
@[simp] theorem averageOut_msum (s : State) : (averageOut s).msum = s.msum := rfl
@[simp] theorem averageOut_gate (s : State) : (averageOut s).gate = s.gate := rfl
@[simp] theorem averageOut_thrRel (s : State) : (averageOut s).thrRel = s.thrRel := rfl
@[simp] theorem averageOut_win (s : State) : (averageOut s).win = s.win := rfl
@[simp] theorem averageOut_phase (s : State) : (averageOut s).phase = s.phase := rfl
@[simp] theorem averageOut_dbr (s : State) : (averageOut s).dbr = s.dbr := rfl
@[simp] theorem averageOut_pr (s : State) : (averageOut s).pr = s.pr := rfl
@[simp] theorem averageOut_looking (s : State) : (averageOut s).looking = s.looking := rfl
@[simp] theorem averageOut_frame (s : State) : (averageOut s).frame = s.frame := rfl
@[simp] theorem averageOut_halted (s : State) : (averageOut s).halted = s.halted := rfl
@[simp] theorem averageOut_input (s : State) : (averageOut s).input = s.input := rfl
@[simp] theorem averageOut_events (s : State) : (averageOut s).events = s.events := rfl
@[simp] theorem averageOut_wires (s : State) : (averageOut s).wires = { s.wires with mavg := ringAverage s } := rfl
@[simp] theorem averageOut_draws (s : State) : (averageOut s).draws = s.draws := rfl
@[simp] theorem averageOut_resetSeen (s : State) : (averageOut s).resetSeen = s.resetSeen := rfl

@[simp] theorem noiseGate_cfg (l : Nat) (s : State) : (noiseGate l s).cfg = s.cfg := rfl
@[simp] theorem noiseGate_rom (l : Nat) (s : State) : (noiseGate l s).rom = s.rom := rfl
@[simp] theorem noiseGate_dc (l : Nat) (s : State) : (noiseGate l s).dc = s.dc := rfl
@[simp] theorem noiseGate_xh (l : Nat) (s : State) : (noiseGate l s).xh = s.xh := rfl
@[simp] theorem noiseGate_yh (l : Nat) (s : State) : (noiseGate l s).yh = s.yh := rfl
@[simp] theorem noiseGate_env1 (l : Nat) (s : State) : (noiseGate l s).env1 = s.env1 := rfl
@[simp] theorem noiseGate_env2 (l : Nat) (s : State) : (noiseGate l s).env2 = s.env2 := rfl
@[simp] theorem noiseGate_mbuf (l : Nat) (s : State) : (noiseGate l s).mbuf = s.mbuf := rfl
@[simp] theorem noiseGate_mpos (l : Nat) (s : State) : (noiseGate l s).mpos = s.mpos := rfl
@[simp] theorem noiseGate_msum (l : Nat) (s : State) : (noiseGate l s).msum = s.msum := rfl
@[simp] theorem noiseGate_gate (l : Nat) (s : State) : (noiseGate l s).gate = gateNext s.cfg s.gate s.thrRel l := rfl
@[simp] theorem noiseGate_thrRel (l : Nat) (s : State) : (noiseGate l s).thrRel = s.thrRel := rfl
@[simp] theorem noiseGate_win (l : Nat) (s : State) : (noiseGate l s).win = s.win := rfl
@[simp] theorem noiseGate_phase (l : Nat) (s : State) : (noiseGate l s).phase = s.phase := rfl
@[simp] theorem noiseGate_dbr (l : Nat) (s : State) : (noiseGate l s).dbr = s.dbr := rfl
@[simp] theorem noiseGate_pr (l : Nat) (s : State) : (noiseGate l s).pr = s.pr := rfl
@[simp] theorem noiseGate_looking (l : Nat) (s : State) : (noiseGate l s).looking = s.looking := rfl
@[simp] theorem noiseGate_frame (l : Nat) (s : State) : (noiseGate l s).frame = s.frame := rfl
@[simp] theorem noiseGate_halted (l : Nat) (s : State) : (noiseGate l s).halted = s.halted := rfl
@[simp] theorem noiseGate_input (l : Nat) (s : State) : (noiseGate l s).input = s.input := rfl
@[simp] theorem noiseGate_events (l : Nat) (s : State) : (noiseGate l s).events = s.events := rfl
@[simp] theorem noiseGate_wires (l : Nat) (s : State) : (noiseGate l s).wires = { s.wires with cbit := gateNext s.cfg s.gate s.thrRel l } := rfl
@[simp] theorem noiseGate_draws (l : Nat) (s : State) : (noiseGate l s).draws = s.draws := rfl
@[simp] theorem noiseGate_resetSeen (l : Nat) (s : State) : (noiseGate l s).resetSeen = s.resetSeen := rfl

@[simp] theorem adaptThreshold_cfg (m : Nat) (s : State) : (adaptThreshold m s).cfg = s.cfg := rfl
@[simp] theorem adaptThreshold_rom (m : Nat) (s : State) : (adaptThreshold m s).rom = s.rom := rfl
@[simp] theorem adaptThreshold_dc (m : Nat) (s : State) : (adaptThreshold m s).dc = s.dc := rfl
@[simp] theorem adaptThreshold_xh (m : Nat) (s : State) : (adaptThreshold m s).xh = s.xh := rfl
@[simp] theorem adaptThreshold_yh (m : Nat) (s : State) : (adaptThreshold m s).yh = s.yh := rfl
@[simp] theorem adaptThreshold_env1 (m : Nat) (s : State) : (adaptThreshold m s).env1 = s.env1 := rfl
@[simp] theorem adaptThreshold_env2 (m : Nat) (s : State) : (adaptThreshold m s).env2 = s.env2 := rfl
@[simp] theorem adaptThreshold_mbuf (m : Nat) (s : State) : (adaptThreshold m s).mbuf = s.mbuf := rfl
@[simp] theorem adaptThreshold_mpos (m : Nat) (s : State) : (adaptThreshold m s).mpos = s.mpos := rfl
@[simp] theorem adaptThreshold_msum (m : Nat) (s : State) : (adaptThreshold m s).msum = s.msum := rfl
@[simp] theorem adaptThreshold_gate (m : Nat) (s : State) : (adaptThreshold m s).gate = s.gate := rfl
@[simp] theorem adaptThreshold_thrRel (m : Nat) (s : State) : (adaptThreshold m s).thrRel = adaptedThreshold s.cfg m := rfl
@[simp] theorem adaptThreshold_win (m : Nat) (s : State) : (adaptThreshold m s).win = s.win := rfl
@[simp] theorem adaptThreshold_phase (m : Nat) (s : State) : (adaptThreshold m s).phase = s.phase := rfl
@[simp] theorem adaptThreshold_dbr (m : Nat) (s : State) : (adaptThreshold m s).dbr = s.dbr := rfl
@[simp] theorem adaptThreshold_pr (m : Nat) (s : State) : (adaptThreshold m s).pr = s.pr := rfl
@[simp] theorem adaptThreshold_looking (m : Nat) (s : State) : (adaptThreshold m s).looking = s.looking := rfl
@[simp] theorem adaptThreshold_frame (m : Nat) (s : State) : (adaptThreshold m s).frame = s.frame := rfl
@[simp] theorem adaptThreshold_halted (m : Nat) (s : State) : (adaptThreshold m s).halted = s.halted := rfl
@[simp] theorem adaptThreshold_input (m : Nat) (s : State) : (adaptThreshold m s).input = s.input := rfl
@[simp] theorem adaptThreshold_events (m : Nat) (s : State) : (adaptThreshold m s).events = s.events := rfl
@[simp] theorem adaptThreshold_wires (m : Nat) (s : State) : (adaptThreshold m s).wires = s.wires := rfl
@[simp] theorem adaptThreshold_draws (m : Nat) (s : State) : (adaptThreshold m s).draws = s.draws := rfl
@[simp] theorem adaptThreshold_resetSeen (m : Nat) (s : State) : (adaptThreshold m s).resetSeen = s.resetSeen := rfl

@[simp] theorem dcBlock_cfg (x : Int) (s : State) : (dcBlock x s).cfg = s.cfg := rfl
@[simp] theorem dcBlock_rom (x : Int) (s : State) : (dcBlock x s).rom = s.rom := rfl
@[simp] theorem dcBlock_dc (x : Int) (s : State) : (dcBlock x s).dc = s.dc + asr (x * 2 ^ s.cfg.frac - s.dc) s.cfg.dcShift := rfl
@[simp] theorem dcBlock_xh (x : Int) (s : State) : (dcBlock x s).xh = s.xh := rfl
@[simp] theorem dcBlock_yh (x : Int) (s : State) : (dcBlock x s).yh = s.yh := rfl
@[simp] theorem dcBlock_env1 (x : Int) (s : State) : (dcBlock x s).env1 = s.env1 := rfl
@[simp] theorem dcBlock_env2 (x : Int) (s : State) : (dcBlock x s).env2 = s.env2 := rfl
@[simp] theorem dcBlock_mbuf (x : Int) (s : State) : (dcBlock x s).mbuf = s.mbuf := rfl
@[simp] theorem dcBlock_mpos (x : Int) (s : State) : (dcBlock x s).mpos = s.mpos := rfl
@[simp] theorem dcBlock_msum (x : Int) (s : State) : (dcBlock x s).msum = s.msum := rfl
@[simp] theorem dcBlock_gate (x : Int) (s : State) : (dcBlock x s).gate = s.gate := rfl
@[simp] theorem dcBlock_thrRel (x : Int) (s : State) : (dcBlock x s).thrRel = s.thrRel := rfl
@[simp] theorem dcBlock_win (x : Int) (s : State) : (dcBlock x s).win = s.win := rfl
@[simp] theorem dcBlock_phase (x : Int) (s : State) : (dcBlock x s).phase = s.phase := rfl
@[simp] theorem dcBlock_dbr (x : Int) (s : State) : (dcBlock x s).dbr = s.dbr := rfl
@[simp] theorem dcBlock_pr (x : Int) (s : State) : (dcBlock x s).pr = s.pr := rfl
@[simp] theorem dcBlock_looking (x : Int) (s : State) : (dcBlock x s).looking = s.looking := rfl
@[simp] theorem dcBlock_frame (x : Int) (s : State) : (dcBlock x s).frame = s.frame := rfl
@[simp] theorem dcBlock_halted (x : Int) (s : State) : (dcBlock x s).halted = s.halted := rfl
@[simp] theorem dcBlock_input (x : Int) (s : State) : (dcBlock x s).input = s.input := rfl
@[simp] theorem dcBlock_events (x : Int) (s : State) : (dcBlock x s).events = s.events := rfl
@[simp] theorem dcBlock_wires (x : Int) (s : State) : (dcBlock x s).wires = { s.wires with hp := x - asr (dcBlock x s).dc s.cfg.frac } := rfl
@[simp] theorem dcBlock_draws (x : Int) (s : State) : (dcBlock x s).draws = s.draws := rfl
@[simp] theorem dcBlock_resetSeen (x : Int) (s : State) : (dcBlock x s).resetSeen = s.resetSeen := rfl

@[simp] theorem bandPass_cfg (v : Int) (s : State) : (bandPass v s).cfg = s.cfg := rfl
@[simp] theorem bandPass_rom (v : Int) (s : State) : (bandPass v s).rom = s.rom := rfl
@[simp] theorem bandPass_dc (v : Int) (s : State) : (bandPass v s).dc = s.dc := rfl
@[simp] theorem bandPass_xh (v : Int) (s : State) : (bandPass v s).xh = (v :: s.xh).take s.cfg.bpfNB := rfl
@[simp] theorem bandPass_yh (v : Int) (s : State) : (bandPass v s).yh = (filterOut v s :: s.yh).take s.cfg.bpfNA := rfl
@[simp] theorem bandPass_env1 (v : Int) (s : State) : (bandPass v s).env1 = s.env1 := rfl
@[simp] theorem bandPass_env2 (v : Int) (s : State) : (bandPass v s).env2 = s.env2 := rfl
@[simp] theorem bandPass_mbuf (v : Int) (s : State) : (bandPass v s).mbuf = s.mbuf := rfl
@[simp] theorem bandPass_mpos (v : Int) (s : State) : (bandPass v s).mpos = s.mpos := rfl
@[simp] theorem bandPass_msum (v : Int) (s : State) : (bandPass v s).msum = s.msum := rfl
@[simp] theorem bandPass_gate (v : Int) (s : State) : (bandPass v s).gate = s.gate := rfl
@[simp] theorem bandPass_thrRel (v : Int) (s : State) : (bandPass v s).thrRel = s.thrRel := rfl
@[simp] theorem bandPass_win (v : Int) (s : State) : (bandPass v s).win = s.win := rfl
@[simp] theorem bandPass_phase (v : Int) (s : State) : (bandPass v s).phase = s.phase := rfl
@[simp] theorem bandPass_dbr (v : Int) (s : State) : (bandPass v s).dbr = s.dbr := rfl
@[simp] theorem bandPass_pr (v : Int) (s : State) : (bandPass v s).pr = s.pr := rfl
@[simp] theorem bandPass_looking (v : Int) (s : State) : (bandPass v s).looking = s.looking := rfl
@[simp] theorem bandPass_frame (v : Int) (s : State) : (bandPass v s).frame = s.frame := rfl
@[simp] theorem bandPass_halted (v : Int) (s : State) : (bandPass v s).halted = s.halted := rfl
@[simp] theorem bandPass_input (v : Int) (s : State) : (bandPass v s).input = s.input := rfl
@[simp] theorem bandPass_events (v : Int) (s : State) : (bandPass v s).events = s.events := rfl
@[simp] theorem bandPass_wires (v : Int) (s : State) : (bandPass v s).wires = { s.wires with bp := filterOut v s } := rfl
@[simp] theorem bandPass_draws (v : Int) (s : State) : (bandPass v s).draws = (if s.cfg.bpfErr = 0 then s.draws else s.draws + 1) := rfl
@[simp] theorem bandPass_resetSeen (v : Int) (s : State) : (bandPass v s).resetSeen = s.resetSeen := rfl

@[simp] theorem envelope1_cfg (v : Int) (s : State) : (envelope1 v s).cfg = s.cfg := rfl
@[simp] theorem envelope1_rom (v : Int) (s : State) : (envelope1 v s).rom = s.rom := rfl
@[simp] theorem envelope1_dc (v : Int) (s : State) : (envelope1 v s).dc = s.dc := rfl
@[simp] theorem envelope1_xh (v : Int) (s : State) : (envelope1 v s).xh = s.xh := rfl
@[simp] theorem envelope1_yh (v : Int) (s : State) : (envelope1 v s).yh = s.yh := rfl
@[simp] theorem envelope1_env1 (v : Int) (s : State) : (envelope1 v s).env1 = follow s.cfg.frac s.env1 v.natAbs s.cfg.env1Atk s.cfg.env1Rel := rfl
@[simp] theorem envelope1_env2 (v : Int) (s : State) : (envelope1 v s).env2 = s.env2 := rfl
@[simp] theorem envelope1_mbuf (v : Int) (s : State) : (envelope1 v s).mbuf = s.mbuf := rfl
@[simp] theorem envelope1_mpos (v : Int) (s : State) : (envelope1 v s).mpos = s.mpos := rfl
@[simp] theorem envelope1_msum (v : Int) (s : State) : (envelope1 v s).msum = s.msum := rfl
@[simp] theorem envelope1_gate (v : Int) (s : State) : (envelope1 v s).gate = s.gate := rfl
@[simp] theorem envelope1_thrRel (v : Int) (s : State) : (envelope1 v s).thrRel = s.thrRel := rfl
@[simp] theorem envelope1_win (v : Int) (s : State) : (envelope1 v s).win = s.win := rfl
@[simp] theorem envelope1_phase (v : Int) (s : State) : (envelope1 v s).phase = s.phase := rfl
@[simp] theorem envelope1_dbr (v : Int) (s : State) : (envelope1 v s).dbr = s.dbr := rfl
@[simp] theorem envelope1_pr (v : Int) (s : State) : (envelope1 v s).pr = s.pr := rfl
@[simp] theorem envelope1_looking (v : Int) (s : State) : (envelope1 v s).looking = s.looking := rfl
@[simp] theorem envelope1_frame (v : Int) (s : State) : (envelope1 v s).frame = s.frame := rfl
@[simp] theorem envelope1_halted (v : Int) (s : State) : (envelope1 v s).halted = s.halted := rfl
@[simp] theorem envelope1_input (v : Int) (s : State) : (envelope1 v s).input = s.input := rfl
@[simp] theorem envelope1_events (v : Int) (s : State) : (envelope1 v s).events = s.events := rfl
@[simp] theorem envelope1_wires (v : Int) (s : State) : (envelope1 v s).wires = { s.wires with lvl := max (lsr (envelope1 v s).env1 s.cfg.frac) s.cfg.envFloor } := rfl
@[simp] theorem envelope1_draws (v : Int) (s : State) : (envelope1 v s).draws = s.draws := rfl
@[simp] theorem envelope1_resetSeen (v : Int) (s : State) : (envelope1 v s).resetSeen = s.resetSeen := rfl

@[simp] theorem normalise_cfg (v : Int) (l : Nat) (s : State) : (normalise v l s).cfg = s.cfg := rfl
@[simp] theorem normalise_rom (v : Int) (l : Nat) (s : State) : (normalise v l s).rom = s.rom := rfl
@[simp] theorem normalise_dc (v : Int) (l : Nat) (s : State) : (normalise v l s).dc = s.dc := rfl
@[simp] theorem normalise_xh (v : Int) (l : Nat) (s : State) : (normalise v l s).xh = s.xh := rfl
@[simp] theorem normalise_yh (v : Int) (l : Nat) (s : State) : (normalise v l s).yh = s.yh := rfl
@[simp] theorem normalise_env1 (v : Int) (l : Nat) (s : State) : (normalise v l s).env1 = s.env1 := rfl
@[simp] theorem normalise_env2 (v : Int) (l : Nat) (s : State) : (normalise v l s).env2 = s.env2 := rfl
@[simp] theorem normalise_mbuf (v : Int) (l : Nat) (s : State) : (normalise v l s).mbuf = s.mbuf := rfl
@[simp] theorem normalise_mpos (v : Int) (l : Nat) (s : State) : (normalise v l s).mpos = s.mpos := rfl
@[simp] theorem normalise_msum (v : Int) (l : Nat) (s : State) : (normalise v l s).msum = s.msum := rfl
@[simp] theorem normalise_gate (v : Int) (l : Nat) (s : State) : (normalise v l s).gate = s.gate := rfl
@[simp] theorem normalise_thrRel (v : Int) (l : Nat) (s : State) : (normalise v l s).thrRel = s.thrRel := rfl
@[simp] theorem normalise_win (v : Int) (l : Nat) (s : State) : (normalise v l s).win = s.win := rfl
@[simp] theorem normalise_phase (v : Int) (l : Nat) (s : State) : (normalise v l s).phase = s.phase := rfl
@[simp] theorem normalise_dbr (v : Int) (l : Nat) (s : State) : (normalise v l s).dbr = s.dbr := rfl
@[simp] theorem normalise_pr (v : Int) (l : Nat) (s : State) : (normalise v l s).pr = s.pr := rfl
@[simp] theorem normalise_looking (v : Int) (l : Nat) (s : State) : (normalise v l s).looking = s.looking := rfl
@[simp] theorem normalise_frame (v : Int) (l : Nat) (s : State) : (normalise v l s).frame = s.frame := rfl
@[simp] theorem normalise_halted (v : Int) (l : Nat) (s : State) : (normalise v l s).halted = s.halted := rfl
@[simp] theorem normalise_input (v : Int) (l : Nat) (s : State) : (normalise v l s).input = s.input := rfl
@[simp] theorem normalise_events (v : Int) (l : Nat) (s : State) : (normalise v l s).events = s.events := rfl
@[simp] theorem normalise_wires (v : Int) (l : Nat) (s : State) : (normalise v l s).wires = { s.wires with norm := sat s.cfg.sigW (tdiv (v * s.cfg.target) l) } := rfl
@[simp] theorem normalise_draws (v : Int) (l : Nat) (s : State) : (normalise v l s).draws = s.draws := rfl
@[simp] theorem normalise_resetSeen (v : Int) (l : Nat) (s : State) : (normalise v l s).resetSeen = s.resetSeen := rfl

@[simp] theorem envelope2_cfg (v : Int) (s : State) : (envelope2 v s).cfg = s.cfg := rfl
@[simp] theorem envelope2_rom (v : Int) (s : State) : (envelope2 v s).rom = s.rom := rfl
@[simp] theorem envelope2_dc (v : Int) (s : State) : (envelope2 v s).dc = s.dc := rfl
@[simp] theorem envelope2_xh (v : Int) (s : State) : (envelope2 v s).xh = s.xh := rfl
@[simp] theorem envelope2_yh (v : Int) (s : State) : (envelope2 v s).yh = s.yh := rfl
@[simp] theorem envelope2_env1 (v : Int) (s : State) : (envelope2 v s).env1 = s.env1 := rfl
@[simp] theorem envelope2_env2 (v : Int) (s : State) : (envelope2 v s).env2 = follow s.cfg.frac s.env2 v.natAbs s.cfg.env2Atk s.cfg.env2Rel := rfl
@[simp] theorem envelope2_mbuf (v : Int) (s : State) : (envelope2 v s).mbuf = s.mbuf := rfl
@[simp] theorem envelope2_mpos (v : Int) (s : State) : (envelope2 v s).mpos = s.mpos := rfl
@[simp] theorem envelope2_msum (v : Int) (s : State) : (envelope2 v s).msum = s.msum := rfl
@[simp] theorem envelope2_gate (v : Int) (s : State) : (envelope2 v s).gate = s.gate := rfl
@[simp] theorem envelope2_thrRel (v : Int) (s : State) : (envelope2 v s).thrRel = s.thrRel := rfl
@[simp] theorem envelope2_win (v : Int) (s : State) : (envelope2 v s).win = s.win := rfl
@[simp] theorem envelope2_phase (v : Int) (s : State) : (envelope2 v s).phase = s.phase := rfl
@[simp] theorem envelope2_dbr (v : Int) (s : State) : (envelope2 v s).dbr = s.dbr := rfl
@[simp] theorem envelope2_pr (v : Int) (s : State) : (envelope2 v s).pr = s.pr := rfl
@[simp] theorem envelope2_looking (v : Int) (s : State) : (envelope2 v s).looking = s.looking := rfl
@[simp] theorem envelope2_frame (v : Int) (s : State) : (envelope2 v s).frame = s.frame := rfl
@[simp] theorem envelope2_halted (v : Int) (s : State) : (envelope2 v s).halted = s.halted := rfl
@[simp] theorem envelope2_input (v : Int) (s : State) : (envelope2 v s).input = s.input := rfl
@[simp] theorem envelope2_events (v : Int) (s : State) : (envelope2 v s).events = s.events := rfl
@[simp] theorem envelope2_wires (v : Int) (s : State) : (envelope2 v s).wires = { s.wires with lev2 := lsr (envelope2 v s).env2 s.cfg.frac } := rfl
@[simp] theorem envelope2_draws (v : Int) (s : State) : (envelope2 v s).draws = s.draws := rfl
@[simp] theorem envelope2_resetSeen (v : Int) (s : State) : (envelope2 v s).resetSeen = s.resetSeen := rfl

end Sys2Proof.Machine
end

