-- ==== Sys2Proof/Laws/Outcome.lean ====
section
/-! SUPPORT. The laws of sequencing and of the operations that may stop: what each leaves when it answers a next state. -/

namespace Sys2Proof.Machine

variable {r : Host.Outcome State Fault Refusal} {k : State → Host.Outcome State Fault Refusal} {s t : State}

@[simp] theorem andThen_next (s : State) (k : State → Host.Outcome State Fault Refusal) : andThen (.next s) k = k s := rfl

@[simp] theorem andThen_fault (f : Fault) (k : State → Host.Outcome State Fault Refusal) : andThen (.fault f) k = .fault f := rfl

@[simp] theorem andThen_refused (q : Refusal) (k : State → Host.Outcome State Fault Refusal) :
    andThen (.refused q) k = .refused q := rfl

theorem andThen_eq_next : andThen r k = .next t ↔ ∃ u, r = .next u ∧ k u = .next t := by
  cases r <;> simp

/-- Everything `WPUSH` can do. -/
theorem windowPush_eq_next {b : Bool} : windowPush b s = .next t ↔
    (s.win = [] ∧ b = false ∧ t = s) ∨
    (¬ (s.win = [] ∧ b = false) ∧ s.win.length < s.cfg.tplLen ∧ t = { s with win := s.win ++ [b] }) := by
  unfold windowPush
  split
  · rename_i h
    simp [h, eq_comm]
  · rename_i h
    split <;> simp_all [eq_comm]

/-- Everything `FPUSH` can do. -/
theorem framePush_eq_next {y : Symbol} : framePush y s = .next t ↔
    s.frame.length < s.cfg.frameCap ∧ t = { s with frame := s.frame ++ [y] } := by
  unfold framePush
  split <;> simp_all [eq_comm]

/-- Everything `MavgSwap` can do. -/
theorem mavgSwap_eq_next {v : Nat} : mavgSwap v s = .next t ↔
    s.mpos < s.cfg.mavgLen ∧
    t = { s with msum := s.msum - s.mbuf.getD s.mpos 0 + v, mbuf := s.mbuf.set s.mpos v,
                 mpos := (s.mpos + 1) % s.cfg.mavgLen } := by
  unfold mavgSwap
  split <;> simp_all [eq_comm]

/-- Everything `MAVG` can do. -/
theorem movingAverage_eq_next {v : Nat} : movingAverage v s = .next t ↔
    ∃ u, mavgSwap v s = .next u ∧ t = averageOut u := by
  rw [movingAverage, andThen_eq_next]
  exact exists_congr fun u => and_congr_right fun _ => by simp [eq_comm]

theorem countDownDbr_eq_next : countDownDbr s = .next t ↔ 0 < s.dbr ∧ t = { s with dbr := s.dbr - 1 } := by
  unfold countDownDbr
  split
  · simp_all
  · simp [Nat.pos_iff_ne_zero, *, eq_comm]

theorem countDownPr_eq_next : countDownPr s = .next t ↔ 0 < s.pr ∧ t = { s with pr := s.pr - 1 } := by
  unfold countDownPr
  split
  · simp_all
  · simp [Nat.pos_iff_ne_zero, *, eq_comm]

/-- The port: a state the fetch hands on differs from the one it took in what is left to present. -/
theorem fetch_run {i : Instr} (h : fetch s = .run i t) : ∃ p rest, s.input = p :: rest ∧ t = { s with input := rest } := by
  unfold fetch at h
  split at h
  · cases h
  · rename_i p rest hp
    split at h
    · exact ⟨p, rest, hp, by cases h; rfl⟩
    · split at h
      · exact ⟨p, rest, hp, by cases h; rfl⟩
      · cases h
    · cases h

/-- A step is what the port presents, run. -/
theorem step_of_fetch_run {i : Instr} (h : fetch s = .run i t) : step s = exec i t := by
  simp [step, h]

end Sys2Proof.Machine
end

