-- ==== Sys2Proof/Laws/Window.lean ====
section
/-! SUPPORT. The window stays canonical: empty or beginning with a 1 (10_state.md R29; 20_memory.md R63 to R66). -/

namespace Sys2Proof.Machine

variable {s t : State}

@[simp] theorem windowCanonical_nil : windowCanonical [] := by simp [windowCanonical]

@[simp] theorem windowCanonical_cons {b : Bool} {w : List Bool} : windowCanonical (b :: w) ↔ b = true := by
  cases b <;> simp [windowCanonical]

/-- `WSTRIP` makes any window canonical (20_memory.md R65). -/
theorem stripZeros_canonical (w : List Bool) : windowCanonical (stripZeros w) := by
  induction w with
  | nil => simp [stripZeros]
  | cons b w ih => cases b <;> simp [stripZeros, ih]

theorem stripZeros_length_le (w : List Bool) : (stripZeros w).length ≤ w.length := by
  induction w with
  | nil => simp [stripZeros]
  | cons b w ih => cases b <;> simp [stripZeros]; omega

/-- `WSTRIP` leaves a canonical window alone. -/
theorem stripZeros_of_canonical {w : List Bool} (h : windowCanonical w) : stripZeros w = w := by
  cases w with
  | nil => rfl
  | cons b w => simp [(windowCanonical_cons.1 h), stripZeros]

/-- `WSTRIP` removes a run of leading zeros. -/
theorem stripZeros_zeros (n : Nat) (w : List Bool) : stripZeros (List.replicate n false ++ w) = stripZeros w := by
  induction n with
  | zero => rfl
  | succ n ih => simpa [List.replicate_succ, stripZeros] using ih

/-- `WPUSH` keeps the window canonical and writes nothing else (20_memory.md R63). -/
theorem windowPush_spec {b : Bool} (h : windowPush b s = .next t) :
    t = { s with win := t.win } ∧ t.win.length ≤ s.win.length + 1 ∧ (windowCanonical s.win → windowCanonical t.win) := by
  rcases windowPush_eq_next.1 h with ⟨_, _, rfl⟩ | ⟨hb, _, rfl⟩
  · exact ⟨rfl, by omega, id⟩
  · refine ⟨rfl, by simp, fun hs => ?_⟩
    cases hw : s.win with
    | nil => cases b <;> simp_all
    | cons x w => simp_all

/-- A window below its capacity takes any bit. -/
theorem windowPush_goesOn {b : Bool} (h : s.win.length < s.cfg.tplLen) : goesOn (windowPush b s) := by
  unfold windowPush
  simp only [h, if_true]
  split <;> exact ⟨_, rfl⟩

/-- The memory operations on the window leave it canonical; `WPOP` does once `WSTRIP` follows it (20_memory.md R64, R65). -/
theorem windowPop_strip_spec (k : Nat) (s : State) :
    windowCanonical (windowStrip (windowPop k s)).win ∧ (windowStrip (windowPop k s)).win.length ≤ s.win.length - k := by
  refine ⟨stripZeros_canonical _, ?_⟩
  have := stripZeros_length_le (s.win.drop k)
  simpa using this

end Sys2Proof.Machine
end

