-- ==== Sys2Proof/Laws/Controller.lean ====
section
/-! SUPPORT. What the controller can do: one lemma for each of `ACQ`, `DATA`, `POS`, `CTL`, and the frame of a classification. -/

namespace Sys2Proof.Machine

variable {s t : State}

/-- The record `ACQ` branch 1 leaves (44_window_controller.md R204). -/
theorem acquire_frameStart (h : windowMatches s .ref = true) (hc : 0 < s.cfg.frameCap) :
    acquire s = .next { s with
      frame := [.ref], dbr := s.cfg.dbrFirst, pr := s.cfg.prInit, phase := .awaitingData, win := [], looking := false
      events := s.events ++ .sym .ref :: (if s.looking then [.lock] else []) } := by
  simp only [acquire, h, if_true, framePush, frameClear, List.length_nil, hc, andThen_next, startFrame, acquireLock]
  cases hl : s.looking <;> simp [emit, windowClear]

/-- The record `ACQ` branch 2 leaves (44_window_controller.md R205). -/
theorem acquire_lock (h : windowMatches s .ref = false) (hl : s.looking = true)
    (hm : windowMatches s .one = true ∨ windowMatches s .zero = true) :
    acquire s = .next { s with win := stripZeros (s.win.drop s.cfg.tplLen), looking := false, events := s.events ++ [.lock] } := by
  have hm' : (windowMatches s .one || (windowMatches s .zero || windowMatches s .ref)) = true := by
    rcases hm with hm | hm <;> simp [hm]
  simp [acquire, h, hl, lockOnSymbol, emit, windowStrip, windowPop]
  intro h1 h2
  simp_all

/-- The record `ACQ` branch 3 leaves (44_window_controller.md R206). -/
theorem acquire_slip (h : windowMatches s .ref = false)
    (hm : s.looking = true → windowMatches s .one = false ∧ windowMatches s .zero = false) :
    acquire s = .next { s with win := stripZeros (s.win.drop 1) } := by
  cases hl : s.looking <;> simp_all [acquire, slip, windowStrip, windowPop]

/-- Everything `ACQ` can do. -/
theorem acquire_cases (h : acquire s = .next t) :
    (windowMatches s .ref = true ∧ t = { s with
      frame := [.ref], dbr := s.cfg.dbrFirst, pr := s.cfg.prInit, phase := .awaitingData, win := [], looking := false
      events := s.events ++ .sym .ref :: (if s.looking then [.lock] else []) }) ∨
    (windowMatches s .ref = false ∧ s.looking = true ∧ (windowMatches s .one = true ∨ windowMatches s .zero = true) ∧
      t = { s with win := stripZeros (s.win.drop s.cfg.tplLen), looking := false, events := s.events ++ [.lock] }) ∨
    (windowMatches s .ref = false ∧ (s.looking = true → windowMatches s .one = false ∧ windowMatches s .zero = false) ∧
      t = { s with win := stripZeros (s.win.drop 1) }) := by
  cases hr : windowMatches s .ref with
  | true =>
    by_cases hc : 0 < s.cfg.frameCap
    · rw [acquire_frameStart hr hc] at h
      exact .inl ⟨rfl, by simpa using h.symm⟩
    · simp [acquire, hr, framePush, hc] at h
  | false =>
    by_cases hm : s.looking = true ∧ (windowMatches s .one = true ∨ windowMatches s .zero = true)
    · rw [acquire_lock hr hm.1 hm.2] at h
      exact .inr (.inl ⟨rfl, hm.1, hm.2, by simpa using h.symm⟩)
    · have hs : s.looking = true → windowMatches s .one = false ∧ windowMatches s .zero = false := by
        intro hl; simpa [hl] using hm
      rw [acquire_slip hr hs] at h
      exact .inr (.inr ⟨rfl, hs, by simpa using h.symm⟩)

/-- The symbol `DATA` classifies the window as, none on a mismatch (44_window_controller.md R209). -/
theorem classifyData_eq (s : State) : classifyData s =
    match (if windowMatches s .one then some Symbol.one else if windowMatches s .zero then some Symbol.zero else none) with
    | some y => acceptData y s
    | none => .next (raiseLoss .dataSymbol s) := by
  unfold classifyData
  split
  · rfl
  · split <;> rfl

/-- Everything `DATA` can do with a classified symbol. -/
theorem acceptData_eq_next {y : Symbol} : acceptData y s = .next t ↔
    s.frame.length < s.cfg.frameCap ∧ 0 < s.dbr ∧
    t = windowClear (afterDataSymbol { s with
      frame := s.frame ++ [y], events := s.events ++ [.sym y], dbr := s.dbr - 1 }) := by
  by_cases hf : s.frame.length < s.cfg.frameCap <;> by_cases hd : s.dbr = 0 <;>
    simp [acceptData, framePush, countDownDbr, emit, hf, hd, eq_comm, Nat.pos_iff_ne_zero]

/-- Everything `DATA` can do. -/
theorem classifyData_cases (h : classifyData s = .next t) :
    (∃ y, (y = .one ∧ windowMatches s .one = true ∨ y = .zero ∧ windowMatches s .one = false ∧ windowMatches s .zero = true) ∧
      acceptData y s = .next t) ∨
    (windowMatches s .one = false ∧ windowMatches s .zero = false ∧ t = raiseLoss .dataSymbol s) := by
  unfold classifyData at h
  cases h1 : windowMatches s .one with
  | true => exact .inl ⟨.one, .inl ⟨rfl, rfl⟩, by simpa [h1] using h⟩
  | false => cases h0 : windowMatches s .zero with
    | true => exact .inl ⟨.zero, .inr ⟨rfl, rfl, rfl⟩, by simpa [h1, h0] using h⟩
    | false => exact .inr ⟨rfl, rfl, by simpa [h1, h0] using h.symm⟩

/-- Everything `POS` can do. -/
theorem classifyPosition_cases (h : classifyPosition s = .next t) :
    (windowMatches s .pos = true ∧ s.frame.length < s.cfg.frameCap ∧ 0 < s.pr ∧ t = { s with
      frame := s.frame ++ [.pos], events := s.events ++ [.sym .pos], dbr := s.cfg.dbrNext, pr := s.pr - 1
      phase := .awaitingData, win := [] }) ∨
    (windowMatches s .pos = false ∧ t = raiseLoss .positionMarker s) := by
  unfold classifyPosition at h
  cases hm : windowMatches s .pos with
  | false => exact .inr ⟨rfl, by simpa [hm] using h.symm⟩
  | true =>
    rw [if_pos hm, andThen_eq_next] at h
    obtain ⟨u, hu, h⟩ := h
    obtain ⟨hf, rfl⟩ := framePush_eq_next.1 hu
    obtain ⟨v, hv, h⟩ := andThen_eq_next.1 h
    obtain ⟨hp, rfl⟩ := countDownPr_eq_next.1 hv
    exact .inl ⟨rfl, hf, hp, by simpa [emit, resumeData, windowClear] using h.symm⟩

/-- What a classification leaves alone: everything but the window, the frame and the controller's fields; events are only added. -/
theorem classify_frame (h : classify s = .next t) :
    ∃ w p d r l f e, t = { s with win := w, phase := p, dbr := d, pr := r, looking := l, frame := f, events := s.events ++ e } := by
  unfold classify at h
  split at h
  · rcases acquire_cases h with ⟨-, rfl⟩ | ⟨-, -, -, rfl⟩ | ⟨-, -, rfl⟩
    · exact ⟨_, _, _, _, _, _, _, rfl⟩
    · exact ⟨_, _, _, _, _, _, _, rfl⟩
    · exact ⟨stripZeros (s.win.drop 1), s.phase, s.dbr, s.pr, s.looking, s.frame, [], by simp⟩
  · rcases classifyData_cases h with ⟨y, -, h⟩ | ⟨-, -, rfl⟩
    · obtain ⟨-, -, rfl⟩ := acceptData_eq_next.1 h
      unfold afterDataSymbol
      split
      · split
        · exact ⟨[], .acquiringFrame, s.dbr - 1, s.pr, s.looking, [],
            [.sym y, .time (decodeFrame s.cfg (s.frame ++ [y]))], by simp [frameDone, windowClear, frameClear, emit]⟩
        · exact ⟨_, _, _, _, _, _, _, rfl⟩
      · exact ⟨_, _, _, _, _, _, _, rfl⟩
    · exact ⟨_, _, _, _, _, _, _, rfl⟩
  · rcases classifyPosition_cases h with ⟨-, -, -, rfl⟩ | ⟨-, rfl⟩
    · exact ⟨_, _, _, _, _, _, _, rfl⟩
    · exact ⟨_, _, _, _, _, _, _, rfl⟩

/-- Everything `CTL` can do (44_window_controller.md R201). -/
theorem control_eq_next {b : Bool} : control b s = .next t ↔ ∃ u, windowPush b s = .next u ∧
    (u.win.length = s.cfg.tplLen ∧ classify (setAdapt true u) = .next t ∨
     u.win.length ≠ s.cfg.tplLen ∧ t = setAdapt false u) := by
  rw [control, andThen_eq_next]
  refine exists_congr fun u => and_congr_right fun hu => ?_
  have hc : u.cfg = s.cfg := by rw [(windowPush_spec hu).1]
  rw [hc]
  by_cases hl : u.win.length = s.cfg.tplLen <;> simp [hl, eq_comm]

end Sys2Proof.Machine
end

