-- ==== Sys2Proof/Laws/Invariant.lean ====
section
/-! SUPPORT. The operations of a step keep the parts of the invariant (10_state.md R21 to R30, R42), and go on from states that have it. -/

namespace Sys2Proof.Machine

variable {s t : State}

/-! ## Conditioning -/

theorem dcBlock_keeps {x : Int} (hx : fitsSigned 16 x = true) (h : ConditioningInv s) : ConditioningInv (dcBlock x s) := by
  have hk : (0 : Int) < 2 ^ s.cfg.frac := by positivity
  rw [fitsSigned_iff] at hx
  have hb := track_between s.dc (x * 2 ^ s.cfg.frac) s.cfg.dcShift
  have h1 : -(2 ^ 15) * 2 ^ s.cfg.frac ≤ x * 2 ^ s.cfg.frac := mul_le_mul_of_nonneg_right (by omega) hk.le
  have h2 : x * 2 ^ s.cfg.frac ≤ (2 ^ 15 - 1) * 2 ^ s.cfg.frac := mul_le_mul_of_nonneg_right (by omega) hk.le
  have h3 := h.dc_lower
  have h4 := h.dc_upper
  exact { h with
    dc_lower := le_trans (le_min h3 h1) hb.1
    dc_upper := le_trans hb.2 (max_le h4 h2) }

/-- `hp` is within `-65535 .. 65535` (41_conditioning.md R141). -/
theorem dcBlock_hp_range {x : Int} (hx : fitsSigned 16 x = true) (h : ConditioningInv s) :
    -65535 ≤ (dcBlock x s).wires.hp ∧ (dcBlock x s).wires.hp ≤ 65535 := by
  have hk : (0 : Int) < 2 ^ s.cfg.frac := by positivity
  have hd := dcBlock_keeps hx h
  rw [fitsSigned_iff] at hx
  have h1 : -(2 ^ 15) ≤ asr (dcBlock x s).dc s.cfg.frac := (Int.le_ediv_iff_mul_le hk).2 hd.dc_lower
  have h2 : asr (dcBlock x s).dc s.cfg.frac ≤ 2 ^ 15 - 1 := by
    refine Int.le_of_lt_add_one ((Int.ediv_lt_iff_lt_mul hk).2 ?_)
    have := hd.dc_upper
    rw [dcBlock_cfg] at this
    linarith
  show -65535 ≤ x - asr (dcBlock x s).dc s.cfg.frac ∧ x - asr (dcBlock x s).dc s.cfg.frac ≤ 65535
  omega

theorem filterOut_fits (v : Int) (s : State) : fitsSigned s.cfg.sigW (filterOut v s) = true := by
  unfold filterOut
  split <;> exact sat_fits _ _

theorem bandPass_keeps {v : Int} (hv : fitsSigned s.cfg.sigW v = true) (h : ConditioningInv s) : ConditioningInv (bandPass v s) where
  dc_lower := h.dc_lower
  dc_upper := h.dc_upper
  xh_length := by have := h.xh_length; simp; omega
  yh_length := by have := h.yh_length; simp; omega
  xh_range := by
    intro u hu
    rcases List.mem_cons.1 (List.mem_of_mem_take hu) with rfl | hu
    · exact hv
    · exact h.xh_range u hu
  yh_range := by
    intro u hu
    rcases List.mem_cons.1 (List.mem_of_mem_take hu) with rfl | hu
    · exact filterOut_fits v s
    · exact h.yh_range u hu
  env1_range := h.env1_range

theorem envelope1_keeps {v : Int} (hv : fitsSigned s.cfg.sigW v = true) (h : ConditioningInv s) : ConditioningInv (envelope1 v s) :=
  { h with env1_range := follow_le h.env1_range (natAbs_le_of_fits hv) }

/-- Conditioning writes `dc`, the histories, `env1`, `env2`, the wires and the draw counter, and nothing else. -/
theorem conditionSample_frame (x : Int) (s : State) : ∃ dc xh yh e1 e2 w d,
    conditionSample x s = { s with dc := dc, xh := xh, yh := yh, env1 := e1, env2 := e2, wires := w, draws := d } :=
  ⟨_, _, _, _, _, _, _, rfl⟩

/-- The conditioning of a legal sample keeps the ranges and hands a level in range to the moving average. -/
theorem conditionSample_spec {x : Int} (hx : fitsSigned 16 x = true) (hw : 18 ≤ s.cfg.sigW) (hc : ConditioningInv s) (hd : DetectorInv s) :
    ConditioningInv (conditionSample x s) ∧ DetectorInv (conditionSample x s)
      ∧ (conditionSample x s).wires.lev2 ≤ 2 ^ (s.cfg.sigW - 1) := by
  have h1 := dcBlock_keeps hx hc
  have hhp : fitsSigned s.cfg.sigW (dcBlock x s).wires.hp = true := by
    have hr := dcBlock_hp_range hx hc
    refine fits_mono hw ?_
    generalize (dcBlock x s).wires.hp = v at hr
    rw [fitsSigned_iff]
    norm_num
    omega
  have h2 := bandPass_keeps (s := dcBlock x s) hhp h1
  have h3 := envelope1_keeps (s := bandPass (dcBlock x s).wires.hp (dcBlock x s)) (filterOut_fits (dcBlock x s).wires.hp (dcBlock x s)) h2
  have he := follow_le (atk := s.cfg.env2Atk) (rel := s.cfg.env2Rel) hd.env2_range
    (natAbs_le_of_fits (sat_fits s.cfg.sigW (tdiv (filterOut (dcBlock x s).wires.hp (dcBlock x s) * s.cfg.target)
      (envelope1 (filterOut (dcBlock x s).wires.hp (dcBlock x s)) (bandPass (dcBlock x s).wires.hp (dcBlock x s))).wires.lvl)))
  exact ⟨⟨h3.dc_lower, h3.dc_upper, h3.xh_length, h3.yh_length, h3.xh_range, h3.yh_range, h3.env1_range⟩,
    ⟨he, hd.ring_length, hd.ring_range, hd.ring_index, hd.ring_sum, hd.thr_lower, hd.thr_upper⟩, lsr_le_of_le he⟩

/-! ## Detector -/

theorem sum_set (l : List Nat) (i v : Nat) (h : i < l.length) : (l.set i v).sum = l.sum - l.getD i 0 + v := by
  induction l generalizing i with
  | nil => simp at h
  | cons a l ih =>
    cases i with
    | zero => simp; omega
    | succ i =>
      have hi : i < l.length := by simpa using h
      have hle : l.getD i 0 ≤ l.sum := by
        rw [List.getD_eq_getElem _ _ hi]
        exact List.le_sum_of_mem (List.getElem_mem hi)
      simp only [List.set_cons_succ, List.sum_cons, ih i hi, List.getD_cons_succ]
      omega

theorem mavgSwap_keeps {v : Nat} (hv : v ≤ 2 ^ (s.cfg.sigW - 1)) (h : DetectorInv s) :
    ∃ u, mavgSwap v s = .next u ∧ DetectorInv u := by
  refine ⟨_, mavgSwap_eq_next.2 ⟨h.ring_index, rfl⟩, ?_⟩
  have hpos : 0 < s.cfg.mavgLen := Nat.lt_of_le_of_lt (Nat.zero_le _) h.ring_index
  exact { h with
    ring_length := by simpa using h.ring_length
    ring_range := by
      intro u hu
      rcases List.mem_or_eq_of_mem_set hu with hu | rfl
      · exact h.ring_range u hu
      · exact hv
    ring_index := Nat.mod_lt _ hpos
    ring_sum := by
      rw [sum_set _ _ _ (by rw [h.ring_length]; exact h.ring_index), h.ring_sum] }

theorem adaptedThreshold_range {c : Config} (h : c.valid = true) (m : Nat) :
    c.thrRelMin ≤ adaptedThreshold c m ∧ adaptedThreshold c m ≤ c.thrOpen := by
  have := (config_valid_iff.1 h).2.2.2.2.1
  unfold adaptedThreshold
  omega

theorem adaptThreshold_keeps {m : Nat} (hv : s.cfg.valid = true) (h : DetectorInv s) : DetectorInv (adaptThreshold m s) :=
  { h with
    thr_lower := (adaptedThreshold_range hv m).1
    thr_upper := (adaptedThreshold_range hv m).2 }

/-! ## Controller -/

theorem frameLenAfter_mono {c : Config} {j k : Nat} (h : j ≤ k) : c.frameLenAfter j ≤ c.frameLenAfter k := by
  have := Nat.mul_le_mul_right (1 + c.dbrNext) h
  simp only [Config.frameLenAfter]
  omega

theorem frameLenAfter_succ (c : Config) (k : Nat) : c.frameLenAfter (k + 1) = c.frameLenAfter k + (1 + c.dbrNext) := by
  simp only [Config.frameLenAfter, Nat.add_mul]
  omega

/-- A full window is classified without a stop, and the controller's relations and a shorter, canonical window result. -/
theorem classify_keeps (hv : s.cfg.valid = true) (hlen : s.win.length = s.cfg.tplLen) (h : ControllerInv s) :
    ∃ t, classify s = .next t ∧ WindowInv t ∧ ControllerInv t := by
  have hpos : 0 < s.cfg.tplLen := by have := tplLen_ge hv; omega
  obtain ⟨-, -, -, -, -, -, -, -, ⟨hfirst, hnext⟩, hcap⟩ := config_valid_iff.1 hv
  unfold ControllerInv at h
  unfold classify
  cases hp : s.phase with
  | acquiringFrame =>
    simp only [hp] at h ⊢
    obtain ⟨hdbr, hpr, hframe⟩ := h
    cases hr : windowMatches s .ref with
    | true =>
      have hc : 0 < s.cfg.frameCap := by simp only [Config.frameLenAfter] at hcap; omega
      refine ⟨_, acquire_frameStart hr hc, ⟨by simp, by simpa using hpos⟩, ?_⟩
      simp [ControllerInv, Config.frameLenAfter]
      omega
    | false =>
      by_cases hm : s.looking = true ∧ (windowMatches s .one = true ∨ windowMatches s .zero = true)
      · refine ⟨_, acquire_lock hr hm.1 hm.2, ⟨stripZeros_canonical _, ?_⟩, ?_⟩
        · have := stripZeros_length_le (s.win.drop s.cfg.tplLen)
          simp at this ⊢; omega
        · simp [ControllerInv, hp, hdbr, hpr, hframe]
      · refine ⟨_, acquire_slip hr (by intro hl; simpa [hl] using hm), ⟨stripZeros_canonical _, ?_⟩, ?_⟩
        · have := stripZeros_length_le (s.win.drop 1)
          simp at this ⊢; omega
        · simp [ControllerInv, hp, hdbr, hpr, hframe]
  | awaitingData =>
    simp only [hp] at h ⊢
    obtain ⟨hdbr, hmax, hpr, hlook, hframe⟩ := h
    have hroom : s.frame.length < s.cfg.frameCap := by
      have := frameLenAfter_mono (c := s.cfg) (Nat.sub_le s.cfg.prInit s.pr)
      omega
    have haccept : ∀ y, ∃ t, acceptData y s = .next t ∧ WindowInv t ∧ ControllerInv t := by
      intro y
      refine ⟨_, acceptData_eq_next.2 ⟨hroom, hdbr, rfl⟩, ?_⟩
      unfold afterDataSymbol
      split
      · split
        · exact ⟨⟨by simp, by simpa [frameDone, emit, frameClear] using hpos⟩, by
            simp [ControllerInv, frameDone, emit, frameClear, windowClear]; simp_all⟩
        · refine ⟨⟨by simp, by simpa using hpos⟩, ?_⟩
          simp [ControllerInv, windowClear]; simp_all; omega
      · refine ⟨⟨by simp, by simpa using hpos⟩, ?_⟩
        simp [ControllerInv, windowClear, hp]; simp_all; omega
    unfold classifyData
    split
    · exact haccept _
    · split
      · exact haccept _
      · exact ⟨_, rfl, ⟨by simp, by simpa using hpos⟩, by simpa [ControllerInv] using hpr⟩
  | awaitingPosition =>
    simp only [hp] at h ⊢
    obtain ⟨hdbr, hpr, hle, hlook, hframe⟩ := h
    have hlen' : s.frame.length + 1 + s.cfg.dbrNext = s.cfg.frameLenAfter (s.cfg.prInit - (s.pr - 1)) := by
      have : s.cfg.prInit - (s.pr - 1) = s.cfg.prInit - s.pr + 1 := by omega
      rw [this, frameLenAfter_succ]; omega
    have hroom : s.frame.length < s.cfg.frameCap := by
      have := frameLenAfter_mono (c := s.cfg) (Nat.sub_le s.cfg.prInit (s.pr - 1))
      omega
    unfold classifyPosition
    split
    · refine ⟨windowClear { s with
          frame := s.frame ++ [.pos], events := s.events ++ [.sym .pos], dbr := s.cfg.dbrNext, pr := s.pr - 1
          phase := .awaitingData }, ?_, ⟨by simp, by simpa using hpos⟩, ?_⟩
      · have : s.pr ≠ 0 := by omega
        simp [framePush, hroom, countDownPr, emit, this, resumeData, windowClear]
      · simp [ControllerInv, windowClear, hlook]
        have : s.pr - 1 ≠ s.cfg.prInit := by omega
        rw [if_neg this]
        omega
    · exact ⟨_, rfl, ⟨by simp, by simpa using hpos⟩, by simpa [ControllerInv] using hle⟩

/-- `CTL` goes on from a state that has the invariant, and keeps the window and the controller's relations. -/
theorem control_keeps {b : Bool} (hv : s.cfg.valid = true) (hw : WindowInv s) (hc : ControllerInv s) :
    ∃ t, control b s = .next t ∧ WindowInv t ∧ ControllerInv t := by
  obtain ⟨u, hu⟩ := windowPush_goesOn (b := b) hw.bound
  obtain ⟨heq, hlen, hcan⟩ := windowPush_spec hu
  have hcu : ControllerInv u := by rw [heq]; exact hc
  have hcfg : u.cfg = s.cfg := by rw [heq]
  have hb := hw.bound
  by_cases hl : u.win.length = s.cfg.tplLen
  · obtain ⟨t, ht, h1, h2⟩ := classify_keeps (s := setAdapt true u) (by rw [setAdapt_cfg, hcfg]; exact hv)
      (by rw [setAdapt_win, setAdapt_cfg, hcfg]; exact hl) hcu
    exact ⟨t, control_eq_next.2 ⟨u, hu, .inl ⟨hl, ht⟩⟩, h1, h2⟩
  · exact ⟨_, control_eq_next.2 ⟨u, hu, .inr ⟨hl, rfl⟩⟩, ⟨hcan hw.leading, by rw [setAdapt_win, setAdapt_cfg, hcfg]; omega⟩, hcu⟩

/-- `CTL` writes the window, the frame, the controller's fields, the events and the wires, and nothing else. -/
theorem control_frame {b : Bool} (h : control b s = .next t) :
    ∃ w p d r l f e a, t = { s with win := w, phase := p, dbr := d, pr := r, looking := l, frame := f,
                                    events := s.events ++ e, wires := { s.wires with adapt := a } } := by
  obtain ⟨u, hu, h | h⟩ := control_eq_next.1 h
  · obtain ⟨w, p, d, r, l, f, e, rfl⟩ := classify_frame h.2
    have := (windowPush_spec hu).1
    exact ⟨w, p, d, r, l, f, e, true, by rw [this]; rfl⟩
  · have := (windowPush_spec hu).1
    exact ⟨u.win, s.phase, s.dbr, s.pr, s.looking, s.frame, [], false, by rw [h.2, this]; simp [setAdapt]⟩

end Sys2Proof.Machine
end

