-- ==== Sys2Proof/Laws/PerInstr.lean ====
section
/-! SUPPORT. A statement made per operation: an operation that has a command word has the `cmd` field of its row
(30_encoding.md R91), and the others have none (R94, R100). -/

namespace Sys2Proof.Laws.CmdField

/-- The command word of a row carries the row's `cmd` value, and only the four commands have one. -/
def Statement (i : Instr) : Prop :=
  ((encode i).isSome = isCommand i) ∧
    ∀ w, encode i = some w →
      (mnemonic i = "NOP" ∧ cmdField w = 0#2) ∨ (mnemonic i = "SAMPLE" ∧ cmdField w = 1#2) ∨
      (mnemonic i = "CBIT" ∧ cmdField w = 2#2) ∨ (mnemonic i = "EOS" ∧ cmdField w = 3#2)

theorem cmdField_commandWord (cmd : BitVec 2) (data : BitVec 16) : cmdField (commandWord cmd data) = cmd := by
  unfold cmdField commandWord
  ext i hi
  have h : (cmd ++ data).getLsbD (16 + i) = cmd.getLsbD i := by rw [BitVec.getLsbD_append]; simp
  simpa [hi] using h

theorem reset (c : Config) : Statement (.reset c) := by simp [Statement, encode, isCommand]
theorem nop : Statement .nop := by simp [Statement, encode, isCommand, mnemonic, cmdField_commandWord]
theorem sample (x : Int) : Statement (.sample x) := by simp [Statement, encode, isCommand, mnemonic, cmdField_commandWord]
theorem cbit (b : Bool) : Statement (.cbit b) := by simp [Statement, encode, isCommand, mnemonic, cmdField_commandWord]
theorem eos : Statement .eos := by simp [Statement, encode, isCommand, mnemonic, cmdField_commandWord]
theorem dcblock (x : Int) : Statement (.dcblock x) := by simp [Statement, encode, isCommand]
theorem bpf (v : Int) : Statement (.bpf v) := by simp [Statement, encode, isCommand]
theorem env1 (v : Int) : Statement (.env1 v) := by simp [Statement, encode, isCommand]
theorem norm (v : Int) (l : Nat) : Statement (.norm v l) := by simp [Statement, encode, isCommand]
theorem env2 (v : Int) : Statement (.env2 v) := by simp [Statement, encode, isCommand]
theorem mavg (v : Nat) : Statement (.mavg v) := by simp [Statement, encode, isCommand]
theorem gate (v : Nat) : Statement (.gate v) := by simp [Statement, encode, isCommand]
theorem adapt (v : Nat) : Statement (.adapt v) := by simp [Statement, encode, isCommand]
theorem tplgen : Statement .tplgen := by simp [Statement, encode, isCommand]
theorem matchTpl (c : List Bool) (t : Template) : Statement (.matchTpl c t) := by simp [Statement, encode, isCommand]
theorem wpush (b : Bool) : Statement (.wpush b) := by simp [Statement, encode, isCommand]
theorem wpop (k : Nat) : Statement (.wpop k) := by simp [Statement, encode, isCommand]
theorem wstrip : Statement .wstrip := by simp [Statement, encode, isCommand]
theorem wclear : Statement .wclear := by simp [Statement, encode, isCommand]
theorem fpush (y : Symbol) : Statement (.fpush y) := by simp [Statement, encode, isCommand]
theorem fclear : Statement .fclear := by simp [Statement, encode, isCommand]
theorem ctl (b : Bool) : Statement (.ctl b) := by simp [Statement, encode, isCommand]
theorem acq : Statement .acq := by simp [Statement, encode, isCommand]
theorem data : Statement .data := by simp [Statement, encode, isCommand]
theorem pos : Statement .pos := by simp [Statement, encode, isCommand]
theorem framedone : Statement .framedone := by simp [Statement, encode, isCommand]
theorem loss (q : LossCause) : Statement (.loss q) := by simp [Statement, encode, isCommand]
theorem decode (f : List Symbol) : Statement (.decode f) := by simp [Statement, encode, isCommand]

end Sys2Proof.Laws.CmdField
end

