-- ==== Sys2Proof/Tests/Slice0.lean ====
section
/-! SUPPORT. Tests of the model against the words and vectors of the spec (30_encoding.md, 95_test_vectors.md), and the refusals of the
well-formedness checks. -/

namespace Sys2Proof.Tests

-- The tests are evaluated one after another: all at once, their threads exceed the memory limit of the check.
set_option Elab.async false

open Sys2Proof.Machine

/-- A field of the state an operation leaves, none where it stops. -/
def after {α : Type} (r : Host.Outcome State Fault Refusal) (f : State → α) : Option α :=
  match r with
  | .next s => some (f s)
  | .fault _ => none
  | .refused _ => none

/-- Whether an operation stops with the given refusal. -/
def refusedWith (r : Host.Outcome State Fault Refusal) (q : Refusal) : Bool :=
  match r with
  | .next _ => false
  | .fault _ => false
  | .refused q' => decide (q' = q)

/-- Whether an operation stops with the given fault. -/
def faultsWith (r : Host.Outcome State Fault Refusal) (f : Fault) : Bool :=
  match r with
  | .next _ => false
  | .fault f' => decide (f' = f)
  | .refused _ => false

/-- The state after `RESET` with C100 of 95_test_vectors.md. -/
def s100 : State := resetCore Config.c100 State.reset

/-- The state after `RESET` with C8000. -/
def s8000 : State := State.reset

/-- C100 in a phase, with counters, `looking` and a frame, `start/…` of 95_test_vectors.md, the window one bit short of the template. -/
def almost (p : Phase) (dbr pr : Nat) (looking : Bool) (f : List Symbol) (t : Template) : State :=
  { s100 with phase := p, dbr := dbr, pr := pr, looking := looking, frame := f, win := (templateBits Config.c100 t).take 99 }

/-- `phase/dbr/pr/looking` of 95_test_vectors.md, with the window's and the frame's length. -/
def summary (s : State) : List Nat :=
  [phaseCode s.phase, s.dbr, s.pr, s.looking.toNat, s.win.length, s.frame.length]

/-- The symbols of a frame written as digits: 0, 1, 2 for `'P'`, 3 for `'R'` (the codes of 30_encoding.md R98). -/
def symbols (ns : List Nat) : List Symbol := ns.map fun n => symbolOfCode (BitVec.ofNat 2 n)

/-- The frame of V40. -/
def v40 : List Symbol := symbols
  ([3,0,0,0,0,0,1,0,0] ++ [2,1,1,1,0,0,0,1,0,0] ++ [2,1,1,0,0,0,1,0,0,0] ++ [2,1,0,1,0,0,0,0,1,0]
    ++ [2,0,0,0,0,0,0,0,0,0] ++ [2,0,0,1,0,0,0,0,0,0])

/-! ## Words (30_encoding.md R91, R101; V1 to V5) -/

theorem test_decode_nop_ignores_data : decodeWord 0x0ABCD#18 = .nop := by decide
theorem test_decode_sample_1000 : decodeWord 0b010000001111101000#18 = .sample 1000 := by decide
theorem test_decode_sample_min : decodeWord 0b011000000000000000#18 = .sample (-32768) := by decide
theorem test_decode_cbit_reads_bit0 : decodeWord 0b101111111111111110#18 = .cbit false := by decide
theorem test_decode_cbit_one : decodeWord 0b100000000000000001#18 = .cbit true := by decide
theorem test_decode_eos_ignores_data : decodeWord 0x3FFFF#18 = .eos := by decide
theorem test_encode_sample_minus1 : encode (.sample (-1)) = some 0x1FFFF#18 := by decide
theorem test_encode_sample_minus8000 : encode (.sample (-8000)) = some 0x1E0C0#18 := by decide
theorem test_encode_cbit : encode (.cbit true) = some 0x20001#18 := by decide
theorem test_decode_rejects_19_bits : decode (2 ^ 18) = .error .widerThan18Bits := by decide
theorem test_decode_table_row : decodeTableWord 24 0x20001 = some (.cbit true) := by decide

/-! ## Ill-formed terms, refused by each check -/

theorem test_wf_reset : (Instr.reset { Config.c100 with fs := 150 }).wellFormed Config.c100 = false := by decide
theorem test_wf_sample : (Instr.sample 32768).wellFormed Config.c100 = false := by decide
theorem test_wf_dcblock : (Instr.dcblock (-32769)).wellFormed Config.c100 = false := by decide
theorem test_wf_bpf : (Instr.bpf 131072).wellFormed Config.c100 = false := by decide
theorem test_wf_env1 : (Instr.env1 (-131073)).wellFormed Config.c100 = false := by decide
theorem test_wf_norm_bp : (Instr.norm 131072 64).wellFormed Config.c100 = false := by decide
theorem test_wf_norm_lvl : (Instr.norm 1 63).wellFormed Config.c100 = false := by decide
theorem test_wf_env2 : (Instr.env2 131072).wellFormed Config.c100 = false := by decide
theorem test_wf_mavg : (Instr.mavg 262144).wellFormed Config.c100 = false := by decide
theorem test_wf_gate : (Instr.gate 262144).wellFormed Config.c100 = false := by decide
theorem test_wf_adapt : (Instr.adapt 262144).wellFormed Config.c100 = false := by decide
theorem test_wf_decode : (Instr.decode [.ref]).wellFormed Config.c100 = false := by decide
theorem test_wf_sample_ok : (Instr.sample (-32768)).wellFormed Config.c100 = true := by decide
theorem test_configs_valid : Config.reference.valid = true ∧ Config.c100.valid = true := by decide

/-! ## Event words (V6 to V9) and text (X10) -/

theorem test_event_words : [Event.sym .ref, .sym .zero, .lock, .loss .dataSymbol, .loss .positionMarker, .cfgerr 3, .halt].map encodeEvent
    = [0x400000003#37, 0x400000000#37, 0x800000000#37, 0xC00000001#37, 0xC00000002#37, 0x1400000003#37, 0x1800000000#37] := by decide
theorem test_event_time : encodeEvent (.time ⟨2024, 45, 13, 27⟩) = 0x11FA05A69B#37
    ∧ encodeEvent (.time ⟨2165, 465, 45, 85⟩) = 0x121D7A36D5#37 := by decide
theorem test_decode_event_reserved : decodeEvent 0x0#37 = none ∧ decodeEvent 0xC00000003#37 = none := by decide
theorem test_render_time : renderEvent (.time ⟨2024, 45, 9, 5⟩)
    = ["Date: Day 45 of year 2024".toList, "Time (UTC): 9:05".toList] := by decide

/-! ## Window, frame, ring (V10 to V19) -/

theorem test_wpush_zero_on_empty : after (exec (.wpush false) s100) State.win = some [] := by decide
theorem test_wpush_zero_after_one : after (exec (.wpush false) { s100 with win := [true] }) State.win = some [true, false] := by decide
theorem test_wpop : after (exec (.wpop 2) { s100 with win := [true, true, false, false, true] }) State.win
    = some [false, false, true] := by decide
theorem test_wpop_all : after (exec (.wpop 7) { s100 with win := [true, false, true] }) State.win = some [] := by decide
theorem test_wstrip : after (exec .wstrip { s100 with win := [false, false, true, false] }) State.win = some [true, false] := by decide
theorem test_wclear : after (exec .wclear { s100 with win := [true] }) State.win = some [] := by decide
theorem test_fpush : after (exec (.fpush .one) { s100 with frame := [.ref, .zero] }) State.frame = some [.ref, .zero, .one] := by decide
theorem test_fclear : after (exec .fclear { s100 with frame := [.ref, .zero] }) State.frame = some [] := by decide
theorem test_fpush_at_capacity : faultsWith (exec (.fpush .one) { s100 with frame := List.replicate 60 .zero }) .frameOverflow = true := by decide

/-- The ring of V19 before its sixth value. -/
def ringV19 : State :=
  { s100 with cfg := { Config.c100 with mavgLen := 4 }, mbuf := [0, 8, 8, 8], mpos := 1, msum := 24 }

theorem test_mavg_v19 : after (exec (.mavg 4) ringV19) (fun s => (s.mbuf, s.mpos, s.msum, s.wires.mavg))
    = some ([0, 4, 8, 8], 2, 20, 5) := by decide

/-! ## Commands (V20 to V23, V58, V59) -/

theorem test_sample_first_of_v20 : after (exec (.sample 1000) s8000)
    (fun s => [s.dc, s.wires.hp, s.wires.bp, s.env1, s.wires.lvl, s.wires.norm, s.env2, s.wires.lev2, s.msum])
    = some [1000, 997, 997, 15952, 64, 131071, 524284, 2047, 2047] := by decide +kernel

/-- The registers after the second row of V20, on C100's short ring. -/
def thirdOfV20 : State := { s100 with dc := 1996, env1 := 30843, env2 := 1040376, msum := 6110, mpos := 2, mbuf := [2047, 4063] ++ List.replicate 98 0 }

theorem test_sample_third_of_v20 : after (exec (.sample (-1000)) thirdOfV20)
    (fun s => [s.dc, s.wires.hp, s.env1, s.wires.lvl, s.wires.norm, s.env2, s.wires.lev2, s.msum])
    = some [988, -1003, 44963, 175, -93903, 1399732, 5467, 11577] := by decide +kernel

theorem test_nop : after (exec .nop { s100 with dbr := 3, events := [.lock] }) (fun s => (s.dbr, s.events)) = some (3, []) := by decide
theorem test_cbit_pushes : after (exec (.cbit true) s100) (fun s => (s.win, s.events, s.wires.adapt)) = some ([true], [], false) := by decide
theorem test_eos : after (exec .eos s100) (fun s => (s.halted, s.events)) = some (true, [.halt]) := by decide
theorem test_halted_sample : after (exec (.sample 5) { s100 with halted := true }) (fun s => (s.dc, s.events)) = some (0, []) := by decide
theorem test_reset_cfgerr : after (exec (.reset { Config.c100 with bpfErr := 3 }) { s100 with halted := true })
    (fun s => (s.events, s.halted, s.looking, s.thrRel)) = some ([.cfgerr 3], false, true, 4096) := by decide +kernel
theorem test_reset_refuses : refusedWith (exec (.reset { Config.c100 with thrRelInit := 9000 }) s100) .illegalConfig = true := by decide

/-! ## Conditioning (V24 to V30) -/

theorem test_rsh : [8191, 8192, -8192, -8193, 24576, -24576].map (rsh · 14) = [0, 1, 0, -1, 2, -1] := by decide
theorem test_dcblock_v27 : after (exec (.dcblock 32767) { s100 with dc := -65408 }) (fun s => (s.dc, s.wires.hp)) = some (-32386, 32894) := by decide

/-- `BPF_EX` after the first two steps of V24. -/
def exV24 : State := { s100 with cfg := Config.c100.withBpfEx, xh := [0, 10000], yh := [554, 286] }

theorem test_bpf_v24_third : after (exec (.bpf 0) exV24) (fun s => (filterAcc 0 exV24, s.wires.bp, s.xh, s.yh))
    = some (8475306, 517, [0, 0], [517, 554]) := by decide
theorem test_bpf_saturates : after (exec (.bpf (-65535)) { s100 with cfg := { Config.c100 with bpfB := [65536] } }) (fun s => s.wires.bp)
    = some (-131072) := by decide
theorem test_env1_falls : after (exec (.env1 100) { s100 with env1 := 1000000 }) (fun s => (s.env1, s.wires.lvl)) = some (999941, 3906) := by decide
theorem test_env1_floor : after (exec (.env1 997) s100) (fun s => (s.env1, s.wires.lvl)) = some (15952, 64) := by decide
theorem test_norm_truncates : after (exec (.norm (-5) 3000) s100) (fun s => s.wires.norm) = some (-27) := by decide
theorem test_norm_saturates : after (exec (.norm (-131072) 64) s100) (fun s => s.wires.norm) = some (-131072) := by decide

/-! ## Detector (V31 to V34) -/

theorem test_env2_v31 : after (exec (.env2 0) { s100 with env2 := 524284 }) (fun s => (s.env2, s.wires.lev2)) = some (516093, 2015) := by decide
theorem test_env2_rests : after (exec (.env2 0) { s100 with env2 := 63 }) (fun s => (s.env2, s.wires.lev2)) = some (63, 0) := by decide
theorem test_gate_opens_at_threshold : after (exec (.gate 8192) s100) (fun s => (s.gate, s.wires.cbit)) = some (true, true) := by decide
theorem test_gate_stays_at_release : [4096, 4095].map (fun l => after (exec (.gate l) { s100 with gate := true }) State.gate)
    = [some true, some false] := by decide
theorem test_adapt_v33 : [0, 2989, 9000].map (fun m => after (exec (.adapt m) s100) State.thrRel) = [some 1, some 2989, some 8192] := by decide
theorem test_adapt_v34 : after (exec (.adapt 1001) { s100 with cfg := { Config.c100 with relNum := 3, relDen := 4, thrRelMin := 100 } }) State.thrRel
    = some 750 := by decide

/-! ## Templates and correlator (V35 to V39) -/

theorem test_tplgen : after (exec .tplgen { s100 with rom := ⟨[], [], [], []⟩ })
    (fun s => (tplRead s.rom .one 46, tplRead s.rom .one 47, s.rom.one.length, tplRead s.rom .ref 76, tplRead s.rom .zero 17))
    = some (some true, some false, 100, some true, some false) := by decide +kernel

/-- A bit sequence with the bits from `a` up to `b` inverted. -/
def inverted (a b : Nat) (w : List Bool) : List Bool := w.mapIdx fun i x => if a ≤ i ∧ i ≤ b then !x else x

theorem test_match_v36 : after (exec (.matchTpl (inverted 1 12 (templateBits Config.c100 .one)) .one) s100) (fun s => s.wires.matched) = some true := by
  decide +kernel
theorem test_match_v37 : after (exec (.matchTpl (inverted 87 99 (templateBits Config.c100 .one)) .one) s100) (fun s => s.wires.matched) = some false := by
  decide +kernel

/-! ## Timecode (V40, V43) -/

theorem test_decode_v40 : after (exec (.decode v40) s100) (fun s => s.wires.time) = some ⟨2024, 45, 13, 27⟩ := by decide +kernel
theorem test_decode_v43 : after (exec (.decode (.ref :: List.replicate 58 .one)) s100) (fun s => s.wires.time) = some ⟨2165, 465, 45, 85⟩ := by
  decide +kernel

/-! ## Controller (V45 to V56) -/

theorem test_acq_v45 : after (exec (.cbit false) (almost .acquiringFrame 0 0 true [] .ref)) (fun s => (s.events, summary s, s.thrRel))
    = some ([.sym .ref, .lock], [1, 8, 5, 0, 0, 1], 1) := by decide +kernel
theorem test_acq_v49 : after (exec (.cbit false) (almost .acquiringFrame 0 0 false [] .one)) (fun s => (s.events, summary s))
    = some ([], [0, 0, 0, 0, 99, 0]) := by decide +kernel
theorem test_ctl_v47 : after (exec (.ctl false) (almost .acquiringFrame 0 0 true [] .one)) (fun s => (s.events, summary s, s.wires.adapt))
    = some ([.lock], [0, 0, 0, 0, 0, 0], true) := by decide +kernel
theorem test_acq_slip_strips : after (exec .acq { s100 with win := [true] ++ List.replicate 98 false ++ [true] }) (fun s => s.win)
    = some [true] := by decide +kernel
theorem test_data_v51 : after (exec (.cbit false) (almost .awaitingData 8 5 false [.ref] .zero)) (fun s => (s.events, summary s, s.frame))
    = some ([.sym .zero], [1, 7, 5, 0, 0, 2], [.ref, .zero]) := by decide +kernel
theorem test_data_v56 : after (exec (.cbit false) (almost .awaitingData 1 0 false (v40.take 58) .zero)) (fun s => (s.events, summary s))
    = some ([.sym .zero, .time ⟨2024, 45, 13, 27⟩], [0, 0, 0, 0, 0, 0]) := by decide +kernel
theorem test_loss_v52 : after (exec (.cbit false) (almost .awaitingData 5 3 false (v40.take 24) .ref)) (fun s => (s.events, summary s))
    = some ([.loss .dataSymbol], [0, 0, 3, 1, 0, 0]) := by decide +kernel
theorem test_pos_v53 : after (exec (.cbit false) (almost .awaitingPosition 0 5 false (v40.take 9) .pos)) (fun s => (s.events, summary s))
    = some ([.sym .pos], [1, 9, 4, 0, 0, 10]) := by decide +kernel
theorem test_pos_v54 : after (exec (.cbit false) (almost .awaitingPosition 0 5 false (v40.take 9) .one)) (fun s => (s.events, summary s))
    = some ([.loss .positionMarker], [0, 0, 5, 1, 0, 0]) := by decide +kernel
theorem test_data_underflow : faultsWith (exec .data { almost .awaitingData 0 5 false [.ref] .one with win := templateBits Config.c100 .one })
    .counterUnderflow = true := by decide +kernel

/-! ## The step -/

theorem test_step_fetches : after (step (State.reset.withFetchWord 24 0x30000)) (fun s => (s.halted, s.events, s.input)) = some (true, [.halt], []) := by
  decide
theorem test_step_sample_from_reset : after (step (State.reset.withFetchWord 24 0x103E8)) (fun s => (s.dc, s.msum, s.thrRel)) = some (1000, 2047, 4096) := by
  decide +kernel
theorem test_step_reset_overrides : after (step { s100 with input := [{ rst := some Config.c100, cw := some 0x30000#18 }] })
    (fun s => (s.halted, s.input)) = some (false, []) := by decide +kernel
theorem test_step_before_reset : refusedWith (step { s100 with resetSeen := false, input := [nopInput] }) .commandBeforeReset = true := by decide
theorem test_front_end : frontEnd [0xE8#8, 0x03#8, 0xFF#8] = [sampleInput 1000, eosInput] := by decide
theorem test_stimulus_words : [sampleInput (-8000), bitInput true, eosInput] = [wordInput 0x1E0C0#18, wordInput 0x20001#18, wordInput 0x30000#18] := by
  decide

/-! ## Witnesses: for each statement with hypotheses, concrete values that meet them together, clause by clause -/

/-- A step that answers a field answers a next state. -/
theorem goesOn_of_after {α : Type} {r : Host.Outcome State Fault Refusal} {f : State → α} {v : α} (h : after r f = some v) : goesOn r := by
  cases r with
  | next s => exact ⟨s, rfl⟩
  | fault _ => simp [after] at h
  | refused _ => simp [after] at h

/-- A state of C100 with a window that begins with a 1 and is not full, and fields as the controller's relations ask, has the invariant. -/
theorem inv_of_controller {p : Phase} {dbr pr : Nat} {looking : Bool} {f : List Symbol} {w : List Bool} {l : List PortInput} {e : List Event}
    (hw : w.head? ≠ some false) (hl : w.length < Config.c100.tplLen)
    (hc : ControllerInv { s100 with phase := p, dbr := dbr, pr := pr, looking := looking, frame := f, win := w, input := l, events := e }) :
    MachineInv { s100 with phase := p, dbr := dbr, pr := pr, looking := looking, frame := f, win := w, input := l, events := e } where
  config := ⟨by show Config.c100.valid = true; decide, rfl⟩
  conditioning := ⟨by show -(2 ^ 15) * 2 ^ 8 ≤ (0 : Int); decide, by show (0 : Int) ≤ (2 ^ 15 - 1) * 2 ^ 8; decide, rfl, rfl,
    fun v hv => (nomatch hv), fun v hv => (nomatch hv), by show 0 ≤ 2 ^ 17 * 2 ^ 8; decide⟩
  detector := ⟨by show 0 ≤ 2 ^ 17 * 2 ^ 8; decide, rfl, by
      intro v hv
      rw [List.eq_of_mem_replicate (show v ∈ List.replicate 100 0 from hv)]
      exact Nat.zero_le _,
    by show 0 < 100; decide, by show 0 = (List.replicate 100 0).sum; decide +kernel, by show 1 ≤ 4096; decide, by show 4096 ≤ 8192; decide⟩
  window := ⟨hw, hl⟩
  controller := hc

theorem s100_inv : MachineInv s100 := inv_of_controller (by decide) (by decide) ⟨rfl, by decide, rfl⟩

theorem almost_data_inv : MachineInv (almost .awaitingData 8 5 false [.ref] .one) :=
  inv_of_controller (by decide +kernel) (by decide +kernel) ⟨by decide, by decide, by decide, rfl, by decide⟩

theorem almost_position_inv : MachineInv (almost .awaitingPosition 0 5 false (v40.take 9) .pos) :=
  inv_of_controller (by decide +kernel) (by decide +kernel) ⟨rfl, by decide, by decide, rfl, by decide⟩

theorem c100_templates : ReferenceTemplates Config.c100 := ⟨rfl, rfl, rfl, rfl, rfl, rfl, rfl, rfl, rfl, rfl⟩

/-- C100 in `AcquiringFrame` with a full window. -/
def full (looking : Bool) (w : List Bool) : State := { s100 with looking := looking, win := w }

theorem witness_EveryWordIsTheCommandOfItsField :
    cmdField 0x0ABCD#18 = cmdField 0x00001#18 ∧ cmdField 0x0ABCD#18 ≠ 1#2 ∧ (2 ^ 18 - 1 < 2 ^ 18) ∧
    cmdField 0x2FFFE#18 = cmdField 0x20000#18 ∧ cmdField 0x2FFFE#18 = 2#2 ∧ (0x2FFFE#18).getLsbD 0 = (0x20000#18).getLsbD 0 := by decide

theorem witness_DecodeEncodeIsTheCommand : [Instr.nop, .sample (-32768), .sample 32767, .cbit true, .eos].all
    (fun i => i.wellFormed Config.c100 && isCommand i) = true := by decide

theorem witness_EventWordsReadBack : 4095 < 2 ^ 12 ∧ 511 < 2 ^ 9 ∧ 63 < 2 ^ 6 ∧ 127 < 2 ^ 7 ∧
    decodeEvent (encodeEvent (.time ⟨4095, 511, 63, 127⟩)) = some (.time ⟨4095, 511, 63, 127⟩) ∧
    decodeEvent (encodeEvent (.cfgerr 255)) = some (.cfgerr 255) := by decide

theorem witness_EventWordLayout : (encodeEvent (.time ⟨4095, 511, 63, 127⟩)).toNat = 5 * 2 ^ 34 - 1 := by decide

/-- A command presented, after a `RESET`; a reset with a command; nothing presented. -/
theorem witness_StepRunsThePresentedCommand :
    (({ s100 with input := [eosInput] } : State).input = [{ rst := none, cw := some 0x30000#18 }] ∧ s100.resetSeen = true) ∧
    (2 ^ 18 - 1 < 2 ^ 18 ∧ 18 ≤ 24) ∧ s100.input = [] ∧
    after (step { s100 with input := [{ rst := none, cw := none }, nopInput] }) State.input = some [nopInput] := by decide

theorem witness_ResetOverridesTheCommandWord :
    ({ s100 with input := [{ rst := some Config.c100, cw := some 0x30000#18 }] } : State).input
      = { rst := some Config.c100, cw := some 0x30000#18 } :: [] := rfl

theorem witness_CommandBeforeResetIsRefused : ({ s100 with resetSeen := false, input := [nopInput] } : State).resetSeen = false ∧
    Config.c100.valid = true ∧
    after (step { s100 with resetSeen := false, input := [resetInput Config.c100] }) State.resetSeen = some true := by decide +kernel

theorem witness_ResetInstallsTheResetState : Config.c100.valid = true ∧ ({ Config.c100 with fs := 50 } : Config).valid = false ∧
    ({ Config.c100 with sigW := 17 } : Config).valid = false ∧ ({ Config.c100 with frameCap := 58 } : Config).valid = false := by decide

/-- The boundary of the frame's length, and a pair of block counts that does not sum to 100, which R9 admits (log entry 15). -/
theorem witness_ResetAcceptsTheLegalConfigurations :
    after (exec (.reset { Config.c100 with frameCap := 59 }) s100) (fun s => s.cfg.frameCap) = some 59 ∧
    refusedWith (exec (.reset { Config.c100 with frameCap := 58 }) s100) .illegalConfig = true ∧
    after (exec (.reset { Config.c100 with act1 := 50, gap1 := 30 }) s100)
      (fun s => (s.rom.one.length, tplRead s.rom .one 49, tplRead s.rom .one 50, tplRead s.rom .one 99))
      = some (100, some true, some false, some false) := by decide +kernel

theorem witness_HaltedCoreIgnoresCommands : ({ s100 with halted := true } : State).halted = true ∧ isCommand (.sample 1) = true ∧
    isCommand (.cbit true) = true ∧ isCommand .eos = true ∧ Config.c100.valid = true := by decide

theorem witness_EosHaltsOnce : s100.halted = false ∧ ({ s100 with halted := true } : State).halted = true := by decide

theorem witness_SampleRunsTheChainInOrder : s100.halted = false ∧ s8000.halted = false := by decide

theorem witness_SampleCompletes : MachineInv s100 ∧ s100.halted = false ∧ (-32768 : Int) ≤ -32768 ∧ (32767 : Int) ≤ 32767 ∧
    after (exec (.sample (-32768)) s100) (fun s => s.wires.adapt) = some false ∧
    after (exec (.sample 32767) s100) (fun s => s.wires.adapt) = some false := ⟨s100_inv, by decide +kernel⟩

theorem witness_CbitCompletesAndSparesTheDetector : MachineInv (almost .awaitingData 8 5 false [.ref] .one) ∧
    (almost .awaitingData 8 5 false [.ref] .one).halted = false ∧
    after (exec (.cbit false) (almost .awaitingData 8 5 false [.ref] .one)) (fun s => s.wires.adapt) = some true :=
  ⟨almost_data_inv, by decide +kernel⟩

theorem witness_DcBlockTracksTheMean : ({ s100 with cfg := { Config.c100 with dcShift := 0 } } : State).cfg.dcShift = 0 ∧
    -32768 * 2 ^ s100.cfg.frac ≤ s100.dc ∧ s100.dc ≤ 32767 * 2 ^ s100.cfg.frac ∧
    after (exec (.dcblock (-32768)) { s100 with dc := 32767 * 2 ^ 8 }) (fun s => s.wires.hp) = some (-65279) := by decide

theorem witness_FilterOutputAndHistories : s100.cfg.bpfErr = 0 ∧ ({ s100 with cfg := { Config.c100 with bpfErr := 3 } } : State).cfg.bpfErr ≠ 0 := by
  decide

theorem witness_PassThroughReturnsItsInput : s100.cfg.bpfB = [2 ^ s100.cfg.bpfFrac] ∧ s100.cfg.bpfA = [] ∧ s100.cfg.bpfErr = 0 ∧
    18 ≤ s100.cfg.sigW ∧ [-65535, 65535].map (fun v => after (exec (.bpf v) s100) (fun s => s.wires.bp)) = [some (-65535), some 65535] := by decide

/-- Rising, falling, at rest within a shift of the target, at the target (41_conditioning.md R148). -/
theorem witness_FollowerNeverOvershoots : 5 * 2 ^ 8 > 100 ∧ 0 * 2 ^ 8 ≤ 100 ∧ follow 8 1265 5 4 14 = 1265 ∧ follow 8 1264 5 4 14 = 1265 ∧
    follow 8 63 0 6 6 = 63 ∧ follow 8 64 0 6 6 = 63 ∧ follow 8 1280 5 4 14 = 1280 := by decide

theorem witness_EnvelopesFollowTheirInput : s100.env1 ≤ 2 ^ (s100.cfg.sigW - 1) * 2 ^ s100.cfg.frac ∧
    (-131072 : Int).natAbs ≤ 2 ^ (s100.cfg.sigW - 1) ∧ s100.env2 ≤ 2 ^ (s100.cfg.sigW - 1) * 2 ^ s100.cfg.frac := by decide

/-- The last quotients that do not saturate on either side (41_conditioning.md R149). -/
theorem witness_NormaliserScalesByTarget : 0 < 16384 ∧ fitsSigned s100.cfg.sigW (Int.tdiv (131071 * s100.cfg.target) 16384) = true ∧
    fitsSigned s100.cfg.sigW (-(Int.tdiv (131071 * s100.cfg.target) 16384)) = true := by decide

theorem witness_MovingAverageIsTheRingsMean : s100.mpos < s100.cfg.mavgLen ∧ s100.mbuf.length = s100.cfg.mavgLen ∧ s100.msum = s100.mbuf.sum ∧
    Config.valid { Config.c100 with mavgLen := 1 } = true ∧ faultsWith (exec (.mavg 1) { s100 with mpos := 100 }) .ringIndexOutOfRange = true ∧
    after (exec (.mavg 7) { s100 with mpos := 99 }) State.mpos = some 0 := by decide +kernel

theorem witness_GateHasTwoThresholds : s100.gate = false ∧ ({ s100 with gate := true } : State).gate = true ∧ s100.thrRel ≤ s100.cfg.thrOpen ∧
    s100.cfg.thrOpen ≤ 8192 := by decide

theorem witness_AdaptClampsTheThreshold : s100.cfg.valid = true ∧ s100.cfg.relNum = s100.cfg.relDen ∧ s100.cfg.thrOpen ≤ 8192 := by decide

theorem witness_GateReadsTheThresholdOfEarlierSteps : s100.halted = false ∧ goesOn (exec (.sample 1000) s100) :=
  ⟨rfl, goesOn_of_after (f := fun s => s.gate) (v := false) (by decide +kernel)⟩

theorem witness_TplgenWritesActiveThenGap : Config.fs { Config.c100 with fs := 150 } % 100 ≠ 0 ∧ (∀ n, s100.cfg.act n + s100.cfg.gap n = 100) ∧
    0 < s100.cfg.tplLen ∧ 99 < s100.cfg.tplLen ∧ ¬ 100 < s100.cfg.tplLen := by
  refine ⟨by decide, fun n => ?_, by decide, by decide, by decide⟩
  cases n <;> decide

/-- The last count within the bound and the first beyond it (V36, V37), of a candidate that is the window. -/
theorem witness_MatchCountsMismatches : s100.rom = templateRom s100.cfg ∧
    [0, 8, 9].map (fun n => after (exec (.matchTpl (List.replicate n false) .one) s100) (fun s => s.wires.matched))
      = [some true, some false, some false] ∧
    [12, 13].map (fun k => windowWithinTolerance (full true (inverted 1 k (templateBits Config.c100 .one))) .one) = [true, false] ∧
    (full true (templateBits Config.c100 .one)).win = templateBits Config.c100 .one := by decide +kernel

theorem witness_MatchIsSymmetricAndMonotone : [0, 99].Nodup ∧ (∀ i ∈ [0, 99], i < (templateBits Config.c100 .one).length) ∧
    (List.range 12).Nodup ∧ 12 ≤ Config.c100.tolNum * 100 / Config.c100.tolDen := by decide +kernel

theorem witness_NoWindowMatchesTwoTemplates : Config.c100.valid = true ∧ ReferenceTemplates Config.c100 ∧
    (templateBits Config.c100 .one).length = Config.c100.tplLen := ⟨by decide, c100_templates, by decide +kernel⟩

/-- The last bit and the last symbol that fit, and the first that do not (log entry 10). -/
theorem witness_PushesWithinCapacity : (List.replicate 99 true).length < s100.cfg.tplLen ∧ s100.cfg.tplLen ≤ (List.replicate 100 true).length ∧
    (v40.length < s100.cfg.frameCap) ∧ s100.cfg.frameCap ≤ (List.replicate 60 Symbol.zero).length ∧
    faultsWith (exec (.wpush false) { s100 with win := List.replicate 100 true }) .windowOverflow = true := by decide +kernel

theorem witness_CtlPushesThenClassifies : s100.win.length < s100.cfg.tplLen ∧
    (almost .awaitingData 8 5 false [.ref] .one).win.length < (almost .awaitingData 8 5 false [.ref] .one).cfg.tplLen := by decide +kernel

theorem witness_AcqTakesOneOfThreeBranches : s100.cfg.valid = true ∧ s100.rom = templateRom s100.cfg ∧
    [(templateBits Config.c100 .ref), (templateBits Config.c100 .one), (templateBits Config.c100 .zero), List.replicate 100 true].map
      (fun w => [decide (w.length = (full true w).cfg.tplLen), decide ((full true w).phase = .acquiringFrame), windowWithinTolerance (full true w) .ref,
        windowWithinTolerance (full true w) .one, windowWithinTolerance (full true w) .zero])
      = [[true, true, true, false, false], [true, true, false, true, false], [true, true, false, false, true], [true, true, false, false, false]] := by
  decide +kernel

/-- C100 in a phase with a full window of a template. -/
def classifying (p : Phase) (dbr pr : Nat) (f : List Symbol) (t : Template) : State :=
  { almost p dbr pr false f t with win := templateBits Config.c100 t }

/-- One data symbol of many, the last of a group, the last of the frame, a mismatch. -/
theorem witness_DataClassifiesOneThenZero :
    [classifying .awaitingData 2 5 (v40.take 7) .one, classifying .awaitingData 1 1 (v40.take 48) .zero, classifying .awaitingData 1 0 (v40.take 58) .one,
      classifying .awaitingData 8 5 [.ref] .ref].map
      (fun s => [decide (s.rom = templateRom s.cfg ∧ s.phase = .awaitingData), decide (s.win.length = s.cfg.tplLen),
        decide (s.frame.length < s.cfg.frameCap), windowWithinTolerance s .one, windowWithinTolerance s .zero])
    = [[true, true, true, true, false], [true, true, true, false, true], [true, true, true, true, false], [true, true, true, false, false]] := by decide +kernel

theorem witness_PosAcceptsTheMarkerOrLoses :
    [classifying .awaitingPosition 0 1 (v40.take 49) .pos, classifying .awaitingPosition 0 5 (v40.take 9) .one].map
      (fun s => [decide (s.rom = templateRom s.cfg ∧ s.phase = .awaitingPosition), decide (s.win.length = s.cfg.tplLen), decide (1 ≤ s.pr), decide (s.dbr = 0),
        decide (s.frame.length < s.cfg.frameCap), windowWithinTolerance s .pos])
    = [[true, true, true, true, true, true], [true, true, true, true, true, false]] := by decide +kernel

theorem witness_CountersStopAtZero :
    [classifying .awaitingData 0 5 [.ref] .one, classifying .awaitingData 0 5 [.ref] .zero, classifying .awaitingPosition 0 0 (v40.take 9) .pos].map
      (fun s => [decide (s.rom = templateRom s.cfg ∧ s.win.length = s.cfg.tplLen ∧ s.frame.length < s.cfg.frameCap), decide (s.dbr = 0),
        decide (s.pr = 0), windowWithinTolerance s .one, windowWithinTolerance s .zero, windowWithinTolerance s .pos])
    = [[true, true, false, true, false, false], [true, true, false, false, true, false], [true, true, true, false, false, true]] := by decide +kernel

theorem witness_DecodeWeighsTheSymbols : v40.length = 59 ∧ (List.replicate 59 Symbol.one).length = 59 := by decide

/-- Two frames that differ at unread indices only. -/
theorem witness_DecodeRangesAndUnreadIndices : (v40.set 55 .one).length = 59 ∧ (v40.set 14 .one).length = 59 ∧
    decodeFrame Config.c100 (v40.set 55 .one) = decodeFrame Config.c100 v40 ∧ decodeFrame Config.c100 (v40.set 14 .one) = decodeFrame Config.c100 v40 ∧
    decodeFrame Config.c100 (v40.set 54 .one) ≠ decodeFrame Config.c100 v40 := by decide +kernel

/-- A state with the invariant and a command presented, in each phase, and the step goes on. -/
theorem witness_StepKeepsTheInvariant :
    MachineInv { almost .awaitingData 8 5 false [.ref] .one with input := [bitInput false] } ∧
    goesOn (step { almost .awaitingData 8 5 false [.ref] .one with input := [bitInput false] }) :=
  ⟨inv_of_controller (by decide +kernel) (by decide +kernel) ⟨by decide, by decide, by decide, rfl, by decide⟩,
    goesOn_of_after (f := State.dbr) (v := 7) (by decide +kernel)⟩

theorem witness_WindowBeginsWithAOneAfterEveryStep : s100.win = [] ∧ (templateBits Config.c100 .one)[0]? = some true ∧
    after (step { full true (List.replicate 99 true) with input := [bitInput false] }) (fun s => s.win.length) = some 99 := by decide +kernel

theorem witness_StepNeverStops : MachineInv s100 ∧ s100.resetSeen = true ∧
    refusedWith (step { s100 with input := [resetInput { Config.c100 with fs := 0 }] }) .illegalConfig = true := ⟨s100_inv, by decide⟩

theorem witness_AdaptOnlyAtFullWindows : s100.halted = false ∧ goesOn (exec (.ctl true) s100) ∧ goesOn (exec (.cbit true) s100) ∧
    goesOn (exec (.sample 0) s100) :=
  ⟨rfl, ⟨_, rfl⟩, ⟨_, rfl⟩, goesOn_of_after (f := fun s => s.gate) (v := false) (by decide +kernel)⟩

/-- Each clause of the table: the reference match while searching and while locked, the last data symbol of a group and of the frame, both
losses, the marker; and the data-shaped window that locks without a change of phase. -/
theorem witness_EventListsAndPhaseChanges :
    [almost .acquiringFrame 0 0 true [] .ref, almost .acquiringFrame 0 0 false [] .ref, almost .acquiringFrame 0 0 true [] .zero,
      almost .awaitingData 1 1 false (v40.take 48) .zero, almost .awaitingData 1 0 false (v40.take 58) .zero, almost .awaitingData 8 5 false [.ref] .pos,
      almost .awaitingPosition 0 5 false (v40.take 9) .pos, almost .awaitingPosition 0 5 false (v40.take 9) .one].map
      (fun s => after (exec (.cbit false) s) (fun t => (t.wires.adapt, phaseCode t.phase, t.events)))
    = [some (true, 1, [.sym .ref, .lock]), some (true, 1, [.sym .ref]), some (true, 0, [.lock]), some (true, 2, [.sym .zero]),
      some (true, 0, [.sym .zero, .time ⟨2024, 45, 13, 27⟩]), some (true, 0, [.loss .dataSymbol]), some (true, 1, [.sym .pos]),
      some (true, 0, [.loss .positionMarker])] := by decide +kernel

theorem witness_EventListsOfAStep : after (exec (.reset { Config.c100 with bpfErr := 255 }) s100) State.events = some [.cfgerr 255] ∧
    after (exec .nop { s100 with events := [.lock] }) State.events = some [] ∧
    after (exec (.cbit true) { s100 with halted := true }) State.events = some [] := by decide +kernel

theorem witness_LockIsTheFallOfLooking : isCommand (.cbit false) = true ∧
    goesOn (exec (.cbit false) (almost .acquiringFrame 0 0 true [] .zero)) ∧
    (almost .awaitingData 8 5 false [.ref] .pos).looking = false ∧
    after (exec (.cbit false) (almost .awaitingData 8 5 false [.ref] .pos)) State.looking = some true :=
  ⟨rfl, goesOn_of_after (f := State.looking) (v := false) (by decide +kernel), rfl, by decide +kernel⟩

theorem witness_PhaseChangesFollowTheTable : isCommand (.cbit false) = true ∧
    (almost .awaitingPosition 0 5 false (v40.take 9) .pos).phase = .awaitingPosition ∧
    after (exec (.cbit false) (almost .awaitingPosition 0 5 false (v40.take 9) .pos)) State.phase = some .awaitingData := by decide +kernel

theorem witness_InvariantHoldsAfterReset : Config.c100.valid = true ∧ Config.reference.valid = true ∧
    (Config.withBpfEx Config.c100).valid = true ∧ s100.input = [] ∧ s100.draws = 0 := by decide

theorem witness_FrameKeepsItsLayout : MachineInv (almost .awaitingPosition 0 5 false (v40.take 9) .pos) ∧
    FrameLayout (almost .awaitingPosition 0 5 false (v40.take 9) .pos) ∧
    goesOn (step { almost .awaitingPosition 0 5 false (v40.take 9) .pos with input := [bitInput false] }) := by
  refine ⟨almost_position_inv, ?_, goesOn_of_after (f := fun s => s.frame.length) (v := 10) (by decide +kernel)⟩
  have h : ∀ i y, (v40.take 9)[i]? = some y → frameSlotOk Config.c100 i y := by
    intro i y hy
    have hi : i < 9 := by
      have := (List.getElem?_eq_some_iff.1 hy).1
      exact Nat.lt_of_lt_of_le this (by decide)
    have hall : ∀ i < 9, ∀ y, (v40.take 9)[i]? = some y → frameSlotOk Config.c100 i y := by
      unfold frameSlotOk
      intro i hi y hy
      have : ∀ i < 9, (if i = 0 then (v40.take 9)[i]? = some .ref else (v40.take 9)[i]? = some .one ∨ (v40.take 9)[i]? = some .zero) := by decide
      have h1 := this i hi
      have h2 : ¬ (Config.c100.dbrFirst < i) := by show ¬ (8 < i); omega
      split
      · simp_all
      · simp_all
    exact hall i hi y hy
  exact h

theorem witness_EachElementHasItsWriters : goesOn (exec .tplgen s100) ∧ goesOn (exec (.cbit true) s100) := ⟨⟨_, rfl⟩, ⟨_, rfl⟩⟩

theorem witness_WiresAreNoState : eraseWires { s100 with wires := { Wires.zero with hp := 5, adapt := true } } = eraseWires s100 := rfl

/-- C100 after `RESET` with inputs presented. -/
def presented (l : List PortInput) : State := { s100 with input := l }

theorem witness_SilenceIsIgnoredForEver : (presented (List.replicate 4 (bitInput false))).halted = false ∧
    (presented (List.replicate 4 (bitInput false))).resetSeen = true ∧ (presented (List.replicate 4 (bitInput false))).win = [] ∧
    0 < (presented (List.replicate 4 (bitInput false))).cfg.tplLen ∧
    (presented (List.replicate 4 (bitInput false))).input = List.replicate (3 + 1) (bitInput false) := by decide

/-- C100 in `AcquiringFrame` with a window of 99 ones and more ones presented. -/
def onesState : State := { full true (List.replicate 99 true) with input := List.replicate 3 (bitInput true) }

theorem witness_AllOnesNeverLocks : onesState.cfg.valid = true ∧ ReferenceTemplates onesState.cfg ∧ onesState.rom = templateRom onesState.cfg ∧
    onesState.halted = false ∧ onesState.resetSeen = true ∧ onesState.phase = .acquiringFrame ∧ onesState.events = [] ∧
    onesState.win = List.replicate (onesState.cfg.tplLen - 1) true ∧ onesState.input = List.replicate 3 (bitInput true) :=
  ⟨by decide, c100_templates, rfl, rfl, rfl, rfl, rfl, rfl, rfl⟩

/-- C100 after `RESET` with the bits of a template presented, and `EOS` after them. -/
def templateState : State := presented ((templateBits Config.c100 .zero).map bitInput ++ [eosInput])

theorem witness_AFullWindowIsClassifiedOnce : templateState.cfg.valid = true ∧ templateState.halted = false ∧ templateState.resetSeen = true ∧
    templateState.win = [] ∧ (templateBits Config.c100 .zero).length = templateState.cfg.tplLen ∧
    (templateBits Config.c100 .zero).head? = some true ∧ 1 < templateState.cfg.tplLen ∧ 99 < templateState.cfg.tplLen ∧
    templateState.input = (templateBits Config.c100 .zero).map bitInput ++ [eosInput] := by decide +kernel

/-- A locked C100 whose window lacks the last bit of a data symbol, that bit and bits `u` presented. -/
def slipState (n : Template) (u : List Bool) : State :=
  { almost .acquiringFrame 0 0 false [] n with input := bitInput false :: u.map bitInput ++ [eosInput] }

/-- The hypotheses for a symbol and the bits that follow it. -/
def slipHypotheses (n : Template) (u : List Bool) : Bool :=
  decide ((n = .one ∨ n = .zero) ∧ (slipState n u).cfg.valid = true ∧ (slipState n u).rom = templateRom (slipState n u).cfg)
  && decide ((slipState n u).halted = false ∧ (slipState n u).resetSeen = true ∧ (slipState n u).phase = .acquiringFrame)
  && decide ((slipState n u).looking = false ∧ (slipState n u).win = (templateBits (slipState n u).cfg n).take ((slipState n u).cfg.tplLen - 1))
  && decide ((u = [] ∨ u.head? = some true) ∧ u.length < (slipState n u).cfg.tplLen)
  && decide ((slipState n u).input = bitInput false :: u.map bitInput ++ [eosInput])

/-- A `'1'` followed by a `'0'` one bit short, a `'0'` followed by a `'1'`, the step that fills the window alone, the last step before the
realignment and the realignment itself. -/
theorem witness_SlipSearchRealigns : (∀ n u, ReferenceTemplates (slipState n u).cfg) ∧
    slipHypotheses .one ((templateBits Config.c100 .zero).take 99) = true ∧ slipHypotheses .zero ((templateBits Config.c100 .one).take 99) = true ∧
    slipHypotheses .one [] = true ∧ slipHypotheses .one ((templateBits Config.c100 .zero).take 45) = true ∧
    slipHypotheses .one ((templateBits Config.c100 .zero).take 46) = true :=
  ⟨fun _ _ => c100_templates, by decide +kernel⟩

/-- C100 after `RESET` with the frame of V40 presented (program P1 of 95_test_vectors.md). -/
def frameState : State := presented (symbolInputs Config.c100 v40 ++ [])

theorem witness_EveryPerfectFrameIsDecoded : MachineInv frameState ∧ frameState.halted = false ∧ frameState.resetSeen = true ∧
    frameState.phase = .acquiringFrame ∧ frameState.win = [] ∧ ReferenceTemplates frameState.cfg ∧ frameState.cfg.dbrFirst = 8 ∧
    frameState.cfg.dbrNext = 9 ∧ frameState.cfg.prInit = 5 ∧ v40.length = 59 ∧ frameState.input = symbolInputs frameState.cfg v40 ++ [] ∧
    (∀ i < 59, ∀ y, v40[i]? = some y → frameSlotOk Config.c100 i y) := by
  refine ⟨inv_of_controller (by decide) (by decide) ⟨rfl, by decide, rfl⟩, rfl, rfl, rfl, rfl, c100_templates, rfl, rfl, rfl, by decide, rfl, ?_⟩
  have h : ∀ i < 59, v40[i]? = some .ref ∧ i = 0 ∨ v40[i]? = some .pos ∧ i ≠ 0 ∧ 8 < i ∧ (i - 9) % 10 = 0 ∨
      (v40[i]? = some .one ∨ v40[i]? = some .zero) ∧ i ≠ 0 ∧ ¬ (8 < i ∧ (i - 9) % 10 = 0) := by decide +kernel
  intro i hi y hy
  show (if i = 0 then y = .ref else if 8 < i ∧ (i - 9) % 10 = 0 then y = .pos else y = .one ∨ y = .zero)
  rcases h i hi with ⟨h1, h2⟩ | ⟨h1, h2, h3⟩ | ⟨h1, h2, h3⟩
  · simp_all
  · rw [if_neg h2, if_pos h3]
    exact (Option.some.inj (h1.symm.trans hy)).symm
  · rw [if_neg h2, if_neg h3]
    rcases h1 with h1 | h1
    · exact .inl (Option.some.inj (h1.symm.trans hy)).symm
    · exact .inr (Option.some.inj (h1.symm.trans hy)).symm

theorem witness_StatusFieldsHoldTheirElements : s100.phase = .acquiringFrame ∧ (almost .awaitingData 8 5 false [.ref] .one).phase = .awaitingData ∧
    (almost .awaitingPosition 0 5 false (v40.take 9) .pos).phase = .awaitingPosition ∧
    [0, 1, 2, 3, 4, 5, 6, 7, 8].map (statusField (almost .awaitingData 8 5 false [.ref] .one))
      = [some 1, some 8, some 5, some 0, some 0, some 4096, some 0, some 0, none] := by decide +kernel

end Sys2Proof.Tests
end

section
/-! The family of 00_scope.md: which configurations `RESET` accepts (R9). -/

namespace Sys2Proof.Machine

variable {c : Config}

/-- `RESET` as the dispatcher runs it, for a legal configuration (70_reset_and_hazards.md R290). -/
theorem exec_reset_of_valid (h : c.valid = true) (s : State) : exec (.reset c) s = .next (resetCore c s) :=
  if_pos h

/-- `RESET` as the dispatcher runs it, for a configuration outside R9 (70_reset_and_hazards.md R290). -/
theorem exec_reset_of_not_valid (h : ¬ c.valid = true) (s : State) : exec (.reset c) s = .refused .illegalConfig :=
  if_neg h

/-- Settles O11: the constraints of R9 are `config_valid_iff`'s, differently bracketed, and `RESET` branches on them alone. -/
theorem resetAcceptsTheLegalConfigurations : Obligations.ResetAcceptsTheLegalConfigurations := by
  intro c s legal
  have hlegal : legal ↔ c.valid = true := by
    simp only [legal, config_valid_iff, Config.frameLenAfter, List.length_pos_iff, and_assoc]
  constructor
  · intro h
    exact ⟨resetCore c s, exec_reset_of_valid (hlegal.mp h) s⟩
  · intro h
    exact exec_reset_of_not_valid (fun hv => h (hlegal.mpr hv)) s

end Sys2Proof.Machine
end

section
/-! The family of 10_state.md: the window is empty or begins with a 1 (R29). A step runs a command or `RESET` only, never a
`WPOP` alone, which would break the claim. -/

namespace Sys2Proof.Machine

variable {s t : State}

/-! ## What a step can run -/

/-- A command word is one of the four commands (30_encoding.md R91). -/
theorem isCommand_decodeWord (w : CmdWord) : isCommand (decodeWord w) = true := by
  unfold decodeWord
  split_ifs <;> rfl

/-- Everything the port can hand on: `RESET` or a command. -/
theorem fetch_run_instr {i : Instr} (h : fetch s = .run i t) : (∃ c, i = .reset c) ∨ isCommand i = true := by
  unfold fetch at h
  split at h
  · cases h
  · split at h
    · cases h
      exact .inl ⟨_, rfl⟩
    · split at h <;> cases h
      exact .inr (isCommand_decodeWord _)
    · cases h

/-- A step at which the port hands on no operation writes nothing but what is left to present. -/
theorem fetch_idle (h : fetch s = .idle t) : ∃ rest, t = { s with input := rest } := by
  unfold fetch at h
  split at h
  · cases h
    exact ⟨s.input, rfl⟩
  · split at h
    · cases h
    · split at h <;> cases h
    · cases h
      exact ⟨_, rfl⟩

/-- Everything a step that goes on can do: nothing, or run `RESET` or a command. -/
theorem step_cases (h : step s = .next t) : ∃ rest, t = { s with input := rest } ∨
    ∃ i, ((∃ c, i = .reset c) ∨ isCommand i = true) ∧ exec i { s with input := rest } = .next t := by
  unfold step at h
  split at h
  · rename_i u hu
    cases h
    obtain ⟨rest, rfl⟩ := fetch_idle hu
    exact ⟨rest, .inl rfl⟩
  · rename_i i u hu
    obtain ⟨_, rest, -, rfl⟩ := fetch_run hu
    exact ⟨rest, .inr ⟨i, fetch_run_instr hu, h⟩⟩
  · cases h

/-! ## What `RESET` and the commands can do -/

/-- Everything `RESET` can do. -/
theorem exec_reset_eq_next {c : Config} : exec (.reset c) s = .next t ↔ c.valid = true ∧ t = resetCore c s := by
  by_cases hv : c.valid = true
  · simp [exec_reset_of_valid hv, hv, eq_comm]
  · simp [exec_reset_of_not_valid hv, hv]

/-- Everything `SAMPLE` can do (40_step_and_commands.md R121, R126). -/
theorem exec_sample_eq_next {x : Int} : exec (.sample x) s = .next t ↔
    (s.halted = true ∧ t = beginStep s) ∨
    (s.halted = false ∧ ∃ u v,
      movingAverage (conditionSample x (beginStep s)).wires.lev2 (conditionSample x (beginStep s)) = .next u ∧
      control (noiseGate u.wires.lev2 u).wires.cbit (noiseGate u.wires.lev2 u) = .next v ∧
      t = adaptIfAsked v.wires.mavg v) := by
  show execSample x s = .next t ↔ _
  unfold execSample
  cases s.halted <;> simp [andThen_eq_next, eq_comm (a := t)]

/-- Everything `CBIT` can do (40_step_and_commands.md R124, R126). -/
theorem exec_cbit_eq_next {b : Bool} : exec (.cbit b) s = .next t ↔
    (s.halted = true ∧ t = beginStep s) ∨
    (s.halted = false ∧ ∃ v, control b (beginStep s) = .next v ∧ t = adaptIfAsked (ringAverage v) v) := by
  show execCbit b s = .next t ↔ _
  unfold execCbit
  cases s.halted <;> simp [andThen_eq_next, eq_comm (a := t)]

/-- Everything `EOS` can do (40_step_and_commands.md R125, R126). -/
theorem exec_eos_eq_next : exec .eos s = .next t ↔
    (s.halted = true ∧ t = beginStep s) ∨
    (s.halted = false ∧ t = emit .halt { beginStep s with halted := true }) := by
  show execEos s = .next t ↔ _
  unfold execEos
  cases s.halted <;> simp [eq_comm]

/-! ## The window of a step's operations -/

@[simp] theorem resetCore_win (c : Config) (s : State) : (resetCore c s).win = [] := rfl

@[simp] theorem conditionSample_win (x : Int) (s : State) : (conditionSample x s).win = s.win := rfl

@[simp] theorem adaptIfAsked_win (m : Nat) (s : State) : (adaptIfAsked m s).win = s.win := by
  unfold adaptIfAsked
  split <;> rfl

theorem movingAverage_win {v : Nat} (h : movingAverage v s = .next t) : t.win = s.win := by
  obtain ⟨u, hu, rfl⟩ := movingAverage_eq_next.1 h
  obtain ⟨-, rfl⟩ := mavgSwap_eq_next.1 hu
  rfl

/-- R29 as the obligation writes it and as the invariant does. -/
theorem windowCanonical_iff {w : List Bool} : windowCanonical w ↔ w = [] ∨ w[0]? = some true := by
  cases w <;> simp

/-- A classification strips the window or clears it, whatever it held (44_window_controller.md R203, R209, R213). -/
theorem classify_canonical (h : classify s = .next t) : windowCanonical t.win := by
  unfold classify at h
  split at h
  · rcases acquire_cases h with ⟨-, rfl⟩ | ⟨-, -, -, rfl⟩ | ⟨-, -, rfl⟩
    · exact windowCanonical_nil
    · exact stripZeros_canonical _
    · exact stripZeros_canonical _
  · rcases classifyData_cases h with ⟨y, -, h⟩ | ⟨-, -, rfl⟩
    · obtain ⟨-, -, rfl⟩ := acceptData_eq_next.1 h
      exact windowCanonical_nil
    · exact windowCanonical_nil
  · rcases classifyPosition_cases h with ⟨-, -, -, rfl⟩ | ⟨-, rfl⟩
    · exact windowCanonical_nil
    · exact windowCanonical_nil

/-- `CTL` keeps the window canonical: `WPUSH` does, and a classification makes it so. -/
theorem control_canonical {b : Bool} (hs : windowCanonical s.win) (h : control b s = .next t) : windowCanonical t.win := by
  obtain ⟨u, hu, ⟨-, hc⟩ | ⟨-, rfl⟩⟩ := control_eq_next.1 h
  · exact classify_canonical hc
  · exact (windowPush_spec hu).2.2 hs

/-- Every command keeps the window canonical: only `CTL`, in `SAMPLE` and `CBIT`, writes it. -/
theorem exec_command_canonical {i : Instr} (hi : isCommand i = true) (hs : windowCanonical s.win) (h : exec i s = .next t) :
    windowCanonical t.win := by
  cases i with
  | nop =>
    cases h
    exact hs
  | sample x =>
    obtain ⟨-, rfl⟩ | ⟨-, u, v, hu, hv, rfl⟩ := exec_sample_eq_next.1 h
    · exact hs
    · have hwin : (noiseGate u.wires.lev2 u).win = s.win := by simp [movingAverage_win hu]
      rw [adaptIfAsked_win]
      exact control_canonical (hwin ▸ hs) hv
  | cbit b =>
    obtain ⟨-, rfl⟩ | ⟨-, v, hv, rfl⟩ := exec_cbit_eq_next.1 h
    · exact hs
    · rw [adaptIfAsked_win]
      exact control_canonical (s := beginStep s) hs hv
  | eos => obtain ⟨-, rfl⟩ | ⟨-, rfl⟩ := exec_eos_eq_next.1 h <;> exact hs
  | _ => cases hi

/-- Settles O46: a step does nothing, or runs `RESET`, which empties the window, or runs a command, which keeps it canonical. -/
theorem windowBeginsWithAOneAfterEveryStep : Obligations.WindowBeginsWithAOneAfterEveryStep := by
  intro s t hs h
  rw [← windowCanonical_iff] at hs ⊢
  obtain ⟨rest, rfl | ⟨i, ⟨c, rfl⟩ | hi, he⟩⟩ := step_cases h
  · exact hs
  · obtain ⟨-, rfl⟩ := exec_reset_eq_next.1 he
    exact windowCanonical_nil
  · exact exec_command_canonical (s := { s with input := rest }) hi hs he

end Sys2Proof.Machine
end

section
/-! The family of 20_memory.md: the removals from window and frame (R64, R66, R68), and which `thr_rel` a `SAMPLE` step's gate
reads (R76). -/

namespace Sys2Proof.Machine

variable {s t : State}

/-- Settles O33: popping more bits than the window holds empties it. -/
theorem removalsFromWindowAndFrame : Obligations.RemovalsFromWindowAndFrame := by
  intro s
  refine ⟨fun k => ?_, rfl, rfl⟩
  rw [← List.drop_eq_drop_min]
  rfl

/-- `MAVG` writes the ring and the wire of its average, and nothing else (42_detector.md R163). -/
theorem movingAverage_frame {v : Nat} (h : movingAverage v s = .next t) :
    ∃ b p m a, t = { s with mbuf := b, mpos := p, msum := m, wires := { s.wires with mavg := a } } := by
  obtain ⟨u, hu, rfl⟩ := movingAverage_eq_next.1 h
  obtain ⟨-, rfl⟩ := mavgSwap_eq_next.1 hu
  exact ⟨_, _, _, _, rfl⟩

/-- `ADAPT`, asked for or not, writes `thr_rel` and nothing else, and does so only when asked (40_step_and_commands.md R123). -/
theorem adaptIfAsked_eq (m : Nat) (s : State) :
    adaptIfAsked m s = { s with thrRel := if s.wires.adapt then adaptedThreshold s.cfg m else s.thrRel } := by
  unfold adaptIfAsked
  split <;> rfl

/-- Settles O27: conditioning and `MAVG` before `GATE`, and `CTL` after it, leave `gate` and `thr_rel` alone; `ADAPT` comes last. -/
theorem gateReadsTheThresholdOfEarlierSteps : Obligations.GateReadsTheThresholdOfEarlierSteps := by
  intro s t x hrun h
  obtain ⟨hhalt, -⟩ | ⟨-, u, v, hu, hv, rfl⟩ := exec_sample_eq_next.1 h
  · simp [hrun] at hhalt
  · obtain ⟨dc, xh, yh, e1, e2, w, d, hcond⟩ := conditionSample_frame x (beginStep s)
    rw [hcond] at hu
    obtain ⟨b, p, m, a, rfl⟩ := movingAverage_frame hu
    obtain ⟨win, ph, dbr, pr, lk, f, ev, ad, rfl⟩ := control_frame hv
    rw [adaptIfAsked_eq]
    exact ⟨rfl, rfl⟩

/-- A running core with an open gate, a full window but one bit and a second envelope of level 2000, below the `thr_rel` of 4096. -/
def adaptingState : State :=
  { Tests.full true (List.replicate 99 true) with gate := true, env2 := 2000 * 2 ^ 8 }

/-- A `SAMPLE` step with `adapt = 1`: the gate closes at level 1968, below the old `thr_rel`; the adapted one, 19, would have kept it open. -/
theorem sample_adaptingState_closes_gate : adaptingState.halted = false ∧ adaptingState.thrRel = 4096 ∧
    Tests.after (exec (.sample 0) adaptingState) (fun t => (t.wires.adapt, t.gate, t.wires.lev2, t.thrRel))
      = some (true, false, 1968, 19) := by decide +kernel

end Sys2Proof.Machine
end

section
/-! The family of 30_encoding.md: the fields of a command word and the command each `cmd` value selects (R90 to R93). -/

namespace Sys2Proof

variable {w : CmdWord}

theorem dataField_commandWord (cmd : BitVec 2) (data : BitVec 16) : dataField (commandWord cmd data) = data :=
  BitVec.extractLsb'_append_eq_right

/-- The carrier bit is bit 0 of the whole word (30_encoding.md R90, R91). -/
theorem dataField_getLsbD_zero (w : CmdWord) : (dataField w).getLsbD 0 = w.getLsbD 0 := by
  simp [dataField]

/-- R11's sign extension is the library's two's complement reading. -/
theorem sext16_eq_toInt (data : BitVec 16) : sext16 data = data.toInt := by
  rw [BitVec.toInt_eq_toNat_cond, sext16]
  split_ifs <;> omega

/-! ## One command per value of `cmd` -/

theorem decodeWord_of_cmdField_eq_zero (h : cmdField w = 0#2) : decodeWord w = .nop := by
  simp [decodeWord, h]

theorem decodeWord_of_cmdField_eq_one (h : cmdField w = 1#2) : decodeWord w = .sample (dataField w).toInt := by
  simp [decodeWord, h, sext16_eq_toInt]

theorem decodeWord_of_cmdField_eq_two (h : cmdField w = 2#2) : decodeWord w = .cbit (w.getLsbD 0) := by
  rw [← dataField_getLsbD_zero]
  simp [decodeWord, h]

theorem decodeWord_of_cmdField_eq_three (h : cmdField w = 3#2) : decodeWord w = .eos := by
  simp [decodeWord, h]

/-- The port has no illegal word: every number that fits it decodes (30_encoding.md R93). -/
theorem decode_of_lt {n : Nat} (h : n < 2 ^ 18) : decode n = .ok (decodeWord (BitVec.ofNat 18 n)) :=
  if_pos h

/-- The `cmd` field has four values. -/
theorem cmdField_cases (w : CmdWord) :
    cmdField w = 0#2 ∨ cmdField w = 1#2 ∨ cmdField w = 2#2 ∨ cmdField w = 3#2 := by
  generalize cmdField w = cmd
  revert cmd
  decide

/-- Only `SAMPLE` reads more of `data` than bit 0, and only `CBIT` reads that bit (30_encoding.md R93). -/
theorem decodeWord_congr {w' : CmdWord} (hcmd : cmdField w = cmdField w') (hne : cmdField w ≠ 1#2)
    (hbit : cmdField w = 2#2 → w.getLsbD 0 = w'.getLsbD 0) : decodeWord w = decodeWord w' := by
  rcases cmdField_cases w with h | h | h | h
  · rw [decodeWord_of_cmdField_eq_zero h, decodeWord_of_cmdField_eq_zero (hcmd ▸ h)]
  · exact absurd h hne
  · rw [decodeWord_of_cmdField_eq_two h, decodeWord_of_cmdField_eq_two (hcmd ▸ h), hbit h]
  · rw [decodeWord_of_cmdField_eq_three h, decodeWord_of_cmdField_eq_three (hcmd ▸ h)]

/-- Settles O2: the equation of each `cmd` value at a word put together from its fields, totality, and the unused bits. -/
theorem everyWordIsTheCommandOfItsField : Obligations.EveryWordIsTheCommandOfItsField := by
  refine ⟨fun data => ?_, fun n hn => ?_, fun w w' => decodeWord_congr⟩
  · have hcmd (cmd : BitVec 2) := Laws.CmdField.cmdField_commandWord cmd data
    refine ⟨decodeWord_of_cmdField_eq_zero (hcmd _), ?_, ?_, decodeWord_of_cmdField_eq_three (hcmd _)⟩
    · rw [decodeWord_of_cmdField_eq_one (hcmd _), dataField_commandWord]
    · rw [decodeWord_of_cmdField_eq_two (hcmd _), ← dataField_getLsbD_zero, dataField_commandWord]
  · exact ⟨_, decode_of_lt hn, Machine.isCommand_decodeWord _⟩

end Sys2Proof
end

section
/-! The family of 40_step_and_commands.md: what each command does in the running and in the halted state (R121, R122, R125, R126). -/

namespace Sys2Proof.Machine

variable {s : State}

/-! ## NOP, EOS and the halted state -/

/-- `NOP` does not look at `halted`: it only begins the step, with an empty event list (R122). -/
theorem exec_nop (s : State) : exec .nop s = .next (beginStep s) := rfl

/-- Settles O12: `NOP` begins the step and does nothing more. -/
theorem nopChangesNothing : Obligations.NopChangesNothing := exec_nop

/-- A halted core begins the step and does nothing more, whichever command it is given (R126). -/
theorem exec_command_of_halted {i : Instr} (hi : isCommand i = true) (hs : s.halted = true) : exec i s = .next (beginStep s) := by
  cases i with
  | nop => exact exec_nop s
  | sample x => exact exec_sample_eq_next.2 (.inl ⟨hs, rfl⟩)
  | cbit b => exact exec_cbit_eq_next.2 (.inl ⟨hs, rfl⟩)
  | eos => exact exec_eos_eq_next.2 (.inl ⟨hs, rfl⟩)
  | _ => cases hi

@[simp] theorem resetCore_halted (c : Config) (s : State) : (resetCore c s).halted = false := rfl

/-- Settles O13: no command leaves the halted state, and `RESET` writes `halted`. -/
theorem haltedCoreIgnoresCommands : Obligations.HaltedCoreIgnoresCommands := by
  intro s hs
  constructor
  · intro i hi
    exact exec_command_of_halted hi hs
  · intro c hc
    exact ⟨resetCore c s, exec_reset_of_valid hc s, resetCore_halted c s⟩

/-- Settles O14: the event list is empty when `EOS` emits `HALT`, so it holds that event alone. -/
theorem eosHaltsOnce : Obligations.EosHaltsOnce := by
  intro s
  constructor
  · intro hs
    exact exec_eos_eq_next.2 (.inr ⟨hs, rfl⟩)
  · intro hs
    exact exec_command_of_halted rfl hs

/-! ## The order of a `SAMPLE` and a `CBIT` step -/

/-- Items 1 to 5 of R121 as operations run one after another: none of them can stop, so what follows them always runs. -/
theorem exec_conditioning_in_order (x : Int) (s : State) (k : State → Host.Outcome State Fault Refusal) :
    (andThen (exec (.dcblock x) s) fun s =>
      andThen (exec (.bpf s.wires.hp) s) fun s =>
      andThen (exec (.env1 s.wires.bp) s) fun s =>
      andThen (exec (.norm s.wires.bp s.wires.lvl) s) fun s =>
      andThen (exec (.env2 s.wires.norm) s) k) = k (conditionSample x s) := rfl

/-- Item 9 of R121 as an operation: `ADAPT` when asked, and otherwise nothing, goes on either way. -/
theorem exec_adapt_if_asked (m : Nat) (s : State) :
    (if s.wires.adapt then exec (.adapt m) s else .next s) = .next (adaptIfAsked m s) := by
  unfold adaptIfAsked
  split <;> rfl

/-- A running core's `SAMPLE` step with items 6 to 8 of R121 as operations. -/
theorem exec_sample_of_running (hs : s.halted = false) (x : Int) : exec (.sample x) s =
    andThen (exec (.mavg (conditionSample x (beginStep s)).wires.lev2) (conditionSample x (beginStep s))) fun s =>
    andThen (exec (.gate s.wires.lev2) s) fun s =>
    andThen (exec (.ctl s.wires.cbit) s) fun s => .next (adaptIfAsked s.wires.mavg s) :=
  if_neg (by simp [hs])

/-- A running core's `CBIT` step with item 8 of R121 as an operation. -/
theorem exec_cbit_of_running (hs : s.halted = false) (b : Bool) : exec (.cbit b) s =
    andThen (exec (.ctl b) (beginStep s)) fun s => .next (adaptIfAsked (ringAverage s) s) :=
  if_neg (by simp [hs])

/-- Settles O15: the conditioning items always go on, `MAVG`, `GATE` and `CTL` stand in the step as they are, and `ADAPT` ends it. -/
theorem sampleRunsTheChainInOrder : Obligations.SampleRunsTheChainInOrder := by
  intro s hs
  constructor
  · intro x
    simp only [exec_adapt_if_asked]
    rw [exec_conditioning_in_order]
    exact exec_sample_of_running hs x
  · intro b
    simp only [exec_adapt_if_asked]
    exact exec_cbit_of_running hs b

end Sys2Proof.Machine
end

section
/-! The family of 41_conditioning.md: the shared follower, where it moves and where it rests (R148). -/

namespace Sys2Proof.Machine

variable {frac env a atk rel : Nat}

/-! ## The follower, one equation per direction -/

theorem follow_of_lt (h : env < a * 2 ^ frac) : follow frac env a atk rel = env + lsr (a * 2 ^ frac - env) atk :=
  if_pos h

theorem follow_of_le (h : a * 2 ^ frac ≤ env) : follow frac env a atk rel = env - lsr (env - a * 2 ^ frac) rel :=
  if_neg h.not_gt

/-- Rising, the estimate rests exactly when the movement rounds down to nothing. -/
theorem follow_eq_self_iff_of_lt (h : env < a * 2 ^ frac) :
    follow frac env a atk rel = env ↔ a * 2 ^ frac - env < 2 ^ atk := by
  rw [follow_of_lt h, Nat.add_eq_left, lsr_eq_zero_iff]

/-- Falling, the movement is at most the estimate, so here too only a movement of 0 lets it rest. -/
theorem follow_eq_self_iff_of_le (h : a * 2 ^ frac ≤ env) :
    follow frac env a atk rel = env ↔ env - a * 2 ^ frac < 2 ^ rel := by
  have hmove := lsr_le (env - a * 2 ^ frac) rel
  rw [follow_of_le h, ← lsr_eq_zero_iff]
  omega

/-- A distance below `2 ^ shift` is below one unit of the integer level when the shift is at most `frac`. -/
theorem lt_one_unit_of_lt_two_pow {d shift : Nat} (hd : d < 2 ^ shift) (h : shift ≤ frac) : d < 2 ^ frac :=
  hd.trans_le (Nat.pow_le_pow_right two_pos h)

/-- Settles O21: the equation of each direction, the bounds of both, and the rest condition, which also bounds the distance at rest. -/
theorem followerNeverOvershoots : Obligations.FollowerNeverOvershoots := by
  intro frac env a atk rel e f
  obtain ⟨hlower, hupper⟩ := follow_between frac env a atk rel
  refine ⟨fun hlt => ?rising, fun hle => ?falling, fun hrest => ?atRest⟩
  case rising =>
    rw [min_eq_left hlt.le] at hlower
    rw [max_eq_right hlt.le] at hupper
    exact ⟨follow_of_lt hlt, hlower, hupper, follow_eq_self_iff_of_lt hlt⟩
  case falling =>
    rw [min_eq_right hle] at hlower
    rw [max_eq_left hle] at hupper
    exact ⟨follow_of_le hle, hlower, hupper, follow_eq_self_iff_of_le hle⟩
  case atRest =>
    constructor
    · intro hlt
      exact lt_one_unit_of_lt_two_pow ((follow_eq_self_iff_of_lt hlt).1 hrest)
    · intro hle
      exact lt_one_unit_of_lt_two_pow ((follow_eq_self_iff_of_le hle).1 hrest)

end Sys2Proof.Machine
end

section
/-! The family of 42_detector.md: the two thresholds of the noise gate (R165). -/

namespace Sys2Proof.Machine

variable {c : Config} {l thrRel : Nat}

/-! ## The gate law, one lemma per state of the gate -/

/-- A closed gate looks at `THR_OPEN` alone. -/
theorem gateNext_closed_eq_true_iff : gateNext c false thrRel l = true ↔ c.thrOpen ≤ l :=
  decide_eq_true_iff

/-- An open gate looks at `thr_rel` alone. -/
theorem gateNext_open_eq_false_iff : gateNext c true thrRel l = false ↔ l < thrRel := by
  simp [gateNext]

/-- A level that would open a closed gate keeps an open one open, because closing needs a level below `thr_rel`. -/
theorem gateNext_open_eq_true_of_thrOpen_le (hthr : thrRel ≤ c.thrOpen) (hl : c.thrOpen ≤ l) :
    gateNext c true thrRel l = true := by
  have hstays : ¬ l < thrRel := (hthr.trans hl).not_gt
  rwa [← gateNext_open_eq_false_iff (c := c), Bool.not_eq_false] at hstays

/-- `GATE` goes on from every state and writes the gate and the carrier bit's wire. -/
theorem exec_gate (l : Nat) (s : State) :
    exec (.gate l) s = .next { s with
      gate := gateNext s.cfg s.gate s.thrRel l
      wires := { s.wires with cbit := gateNext s.cfg s.gate s.thrRel l } } := rfl

/-- Settles O25: the gate law in the closed and in the open state, and the corner where both thresholds are met. -/
theorem gateHasTwoThresholds : Obligations.GateHasTwoThresholds := by
  intro l s
  refine ⟨_, exec_gate l s, fun hclosed => ?closed, fun hopen => ?opened, fun hthr hopen hl => ?corner⟩
  case closed =>
    rw [hclosed]
    exact gateNext_closed_eq_true_iff
  case opened =>
    rw [hopen]
    exact gateNext_open_eq_false_iff
  case corner =>
    rw [hopen]
    exact gateNext_open_eq_true_of_thrOpen_le hthr hl

end Sys2Proof.Machine
end

section
/-! The family of 43_templates_correlator.md: `MATCH` counts mismatches against the bound (R184). -/

namespace Sys2Proof.Machine

/-- With the ROM of the configuration, `TplRead` reads the template's bits. -/
theorem tplRead_templateRom (c : Config) (t : Template) (i : Nat) :
    tplRead (templateRom c) t i = (templateBits c t)[i]? := by
  rw [tplRead, romTemplate_templateRom]

/-- The comparison with a template's bits is R184's count through `TplRead`, for a candidate of any length. -/
theorem matchBits_templateBits (c : Config) (cand : List Bool) (t : Template) :
    matchBits c cand (templateBits c t) =
      decide ((List.range (min cand.length c.tplLen)).countP (fun i => cand[i]? != tplRead (templateRom c) t i)
        ≤ c.tolNum * min cand.length c.tplLen / c.tolDen) := by
  simp only [matchBits_eq, mismatches_eq_countP, templateBits_length, matchBound, tplRead_templateRom]

/-- `MATCH` goes on from every state and writes its answer's wire. -/
theorem exec_matchTpl (cand : List Bool) (t : Template) (s : State) :
    exec (.matchTpl cand t) s =
      .next { s with wires := { s.wires with matched := matchBits s.cfg cand (romTemplate s.rom t) } } := rfl

/-- With the ROM of the configuration, the controller's comparison of the window is the one with the template's bits. -/
theorem windowMatches_eq_matchBits {s : State} {t : Template} (hrom : s.rom = templateRom s.cfg) :
    windowMatches s t = matchBits s.cfg s.win (templateBits s.cfg t) := by
  rw [windowMatches, hrom, romTemplate_templateRom]

/-- Settles O29: the operation and the controller both compare with the template's bits, and that comparison is R184's count. -/
theorem matchCountsMismatches : Obligations.MatchCountsMismatches := by
  intro cand n s hrom mm bound
  have hcount : matchBits s.cfg cand (templateBits s.cfg n) = decide (mm ≤ bound) := by
    simp only [mm, bound, hrom]
    exact matchBits_templateBits s.cfg cand n
  refine ⟨?operation, hcount, ?window⟩
  case operation => rw [exec_matchTpl, hrom, romTemplate_templateRom, hcount]
  case window =>
    rintro rfl
    rw [windowMatches_eq_matchBits hrom, hcount]

end Sys2Proof.Machine
end

section
/-! The family of 44_window_controller.md: `CTL` and what it runs on a full window, `ACQ`, `DATA`, `POS` and `FRAMEDONE`
(R201, R203, R209, R213, R216). -/

namespace Sys2Proof.Machine

variable {s : State}

/-! ## CTL -/

/-- A window below its capacity takes any bit, a 0 onto the empty window without effect (20_memory.md R63). -/
theorem windowPush_of_lt (h : s.win.length < s.cfg.tplLen) (b : Bool) :
    windowPush b s = .next { s with win := pushed b s.win } := by
  rw [windowPush_eq_next, pushed]
  by_cases hdrop : s.win = [] ∧ b = false
  · rw [if_pos hdrop]
    exact .inl ⟨hdrop.1, hdrop.2, by rw [← hdrop.1]⟩
  · rw [if_neg hdrop]
    exact .inr ⟨hdrop, h, rfl⟩

/-- The classification is the operation of the state's phase. -/
theorem exec_phaseOp (s : State) : exec (phaseOp s.phase) s = classify s := by
  unfold classify
  cases s.phase <;> rfl

/-- Settles O35: the push goes on, and `CTL` branches on the length of the window it leaves. -/
theorem ctlPushesThenClassifies : Obligations.CtlPushesThenClassifies := by
  intro b s hlen w
  have hclassify : exec (phaseOp s.phase) { s with win := w, wires := { s.wires with adapt := true } } =
      classify (setAdapt true { s with win := w }) := exec_phaseOp (setAdapt true { s with win := w })
  show control b s = _
  rw [control, windowPush_of_lt hlen, andThen_next, hclassify]
  rfl

/-! ## ACQ -/

/-- A window is a run of zeros and what `WSTRIP` leaves of it (20_memory.md R65). -/
theorem exists_zeros_append_stripZeros (w : List Bool) : ∃ n, w = List.replicate n false ++ stripZeros w := by
  induction w with
  | nil => exact ⟨0, rfl⟩
  | cons b w ih => cases b with
    | true => exact ⟨0, rfl⟩
    | false =>
      obtain ⟨n, hn⟩ := ih
      exact ⟨n + 1, congrArg (false :: ·) hn⟩

/-- What `WSTRIP` leaves is empty or begins with a 1 (20_memory.md R65). -/
theorem stripZeros_eq_nil_or_head? (w : List Bool) : stripZeros w = [] ∨ (stripZeros w).head? = some true := by
  rw [List.head?_eq_getElem?]
  exact windowCanonical_iff.1 (stripZeros_canonical w)

/-- A legal configuration has room for a symbol in an empty frame. -/
theorem frameCap_pos {c : Config} (h : c.valid = true) : 0 < c.frameCap := by
  obtain ⟨-, -, -, -, -, -, -, -, -, hcap⟩ := config_valid_iff.1 h
  rw [Config.frameLenAfter] at hcap
  omega

/-- Settles O36: `MATCH` of a full window is R184's count, and the three branches of `ACQ` are the three records of its laws. -/
theorem acqTakesOneOfThreeBranches : Obligations.AcqTakesOneOfThreeBranches := by
  intro s hvalid hrom hlen _
  simp only [← windowMatches_eq hrom hlen]
  refine ⟨fun href => ?frameStart, fun href hlook hsym => ?lock, fun href hnone => ?slip⟩
  case frameStart =>
    have hevents : Event.sym .ref :: (if s.looking then [.lock] else []) =
        if s.looking then [.sym .ref, .lock] else [.sym .ref] := apply_ite _ _ _ _
    rw [← hevents]
    exact acquire_frameStart href (frameCap_pos hvalid)
  case lock =>
    have hempty : stripZeros (s.win.drop s.cfg.tplLen) = [] := by
      rw [← hlen, List.drop_length, stripZeros]
    rw [← hempty]
    exact acquire_lock href hlook hsym
  case slip =>
    obtain ⟨n, hn⟩ := exists_zeros_append_stripZeros s.win.tail
    refine ⟨n, _, hn, stripZeros_eq_nil_or_head? _, ?_⟩
    rw [← List.drop_one]
    exact acquire_slip href fun hlook => by simpa [hlook] using hnone

/-! ## FRAMEDONE -/

/-- The record `FRAMEDONE` leaves (44_window_controller.md R216). -/
theorem frameDone_eq (s : State) : frameDone s = { s with
    events := s.events ++ [.time (decodeFrame s.cfg s.frame)], frame := [], phase := .acquiringFrame } := rfl

/-- `FRAMEDONE` goes on from every state. -/
theorem exec_framedone (s : State) : exec .framedone s = .next (frameDone s) := rfl

/-- `DECODE` goes on from every state and answers on its wire. -/
theorem exec_decode (f : List Symbol) (s : State) :
    exec (.decode f) s = .next { s with wires := { s.wires with time := decodeFrame s.cfg f } } := rfl

/-- Settles O40: `FRAMEDONE` decodes the frame by the function that `DECODE` answers with. -/
theorem framedoneEmitsTheTime : Obligations.FramedoneEmitsTheTime :=
  fun s => ⟨_, exec_decode s.frame s, by rw [exec_framedone, frameDone_eq]⟩

/-! ## DATA -/

/-- `DATA` as the dispatcher runs it, for a window classified as `y`: `ONE` is tried first. -/
theorem exec_data_of_classified {y : Symbol} (h : windowMatches s .one = true ∧ y = .one ∨
    windowMatches s .one = false ∧ windowMatches s .zero = true ∧ y = .zero) : exec .data s = acceptData y s := by
  show classifyData s = _
  rw [classifyData_eq]
  obtain ⟨hone, rfl⟩ | ⟨hone, hzero, rfl⟩ := h
  · simp [hone]
  · simp [hone, hzero]

/-- `DATA` as the dispatcher runs it, for a window that matches neither template: `LOSS(1)`. -/
theorem exec_data_of_mismatch (hone : windowMatches s .one = false) (hzero : windowMatches s .zero = false) :
    exec .data s = exec (.loss .dataSymbol) s := by
  show classifyData s = .next (raiseLoss .dataSymbol s)
  simp [classifyData_eq, hone, hzero]

theorem afterDataSymbol_of_dbr_pos (h : 0 < s.dbr) : afterDataSymbol s = s := if_neg h.ne'

theorem afterDataSymbol_of_pr_pos (hdbr : s.dbr = 0) (hpr : 0 < s.pr) :
    afterDataSymbol s = { s with phase := .awaitingPosition } := by
  rw [afterDataSymbol, if_pos hdbr, if_neg hpr.ne']

theorem afterDataSymbol_of_pr_eq_zero (hdbr : s.dbr = 0) (hpr : s.pr = 0) : afterDataSymbol s = frameDone s := by
  rw [afterDataSymbol, if_pos hdbr, if_pos hpr]

/-- Settles O37: a classified window is accepted, and what follows its symbol is decided by the counters it leaves. -/
theorem dataClassifiesOneThenZero : Obligations.DataClassifiesOneThenZero := by
  intro s hrom _ hlen hroom
  simp only [← windowMatches_eq hrom hlen]
  refine ⟨fun y hy => ?_, exec_data_of_mismatch⟩
  rw [exec_data_of_classified hy]
  refine ⟨fun hdbr => ?stays, fun hdbr hpr => ?position, fun hdbr hpr => ?finished⟩
  case stays =>
    refine acceptData_eq_next.2 ⟨hroom, by omega, ?_⟩
    simp [afterDataSymbol_of_dbr_pos, windowClear, hdbr]
  case position =>
    refine acceptData_eq_next.2 ⟨hroom, by omega, ?_⟩
    simp [afterDataSymbol_of_pr_pos, windowClear, hdbr, hpr]
  case finished =>
    refine acceptData_eq_next.2 ⟨hroom, by omega, ?_⟩
    simp [afterDataSymbol_of_pr_eq_zero, frameDone_eq, windowClear, hdbr, hpr]

/-! ## POS -/

/-- The record `POS` leaves for the marker (44_window_controller.md R213). -/
theorem exec_pos_of_marker (h : windowMatches s .pos = true) (hroom : s.frame.length < s.cfg.frameCap) (hpr : 0 < s.pr) :
    exec .pos s = .next { s with
      frame := s.frame ++ [.pos], events := s.events ++ [.sym .pos], dbr := s.cfg.dbrNext, pr := s.pr - 1
      phase := .awaitingData, win := [] } := by
  show classifyPosition s = _
  rw [classifyPosition, if_pos h]
  exact andThen_eq_next.2 ⟨_, framePush_eq_next.2 ⟨hroom, rfl⟩, andThen_eq_next.2 ⟨_, countDownPr_eq_next.2 ⟨hpr, rfl⟩, rfl⟩⟩

/-- `POS` for any other window: `LOSS(2)` (44_window_controller.md R213). -/
theorem exec_pos_of_mismatch (h : windowMatches s .pos = false) : exec .pos s = exec (.loss .positionMarker) s :=
  if_neg (by simp [h])

/-- Settles O38: `POS` branches on the match alone, and under its preconditions neither the push nor the count-down stops. -/
theorem posAcceptsTheMarkerOrLoses : Obligations.PosAcceptsTheMarkerOrLoses := by
  intro s hrom _ hlen hpr _ hroom
  simp only [← windowMatches_eq hrom hlen]
  exact ⟨fun hm => exec_pos_of_marker hm hroom hpr, exec_pos_of_mismatch⟩

end Sys2Proof.Machine
end

section
/-! The family of 45_timecode_decode.md: the fields of a frame as sums of weights (R241 to R244). -/

namespace Sys2Proof.Machine

/-- Inside the frame a symbol counts 1 exactly when it is `'1'` (45_timecode_decode.md R243); no free value is read there. -/
theorem symbolBit_of_lt {f : List Symbol} {i : Nat} (h : i < f.length) :
    symbolBit f i = if f.getD i .zero = .one then 1 else 0 := by
  rw [symbolBit, List.getElem?_eq_getElem h, List.getD_eq_getElem f .zero h]
  cases f[i] <;> rfl

/-! ### The weights of each field (45_timecode_decode.md R242, R244) -/

theorem frameMinute_eq_weights (f : List Symbol) : frameMinute f =
    1 * symbolBit f 10 + 2 * symbolBit f 11 + 4 * symbolBit f 12 + 8 * symbolBit f 13
      + 10 * symbolBit f 15 + 20 * symbolBit f 16 + 40 * symbolBit f 17 := by
  rw [frameMinute, digitAt, Nat.one_mul]

theorem frameHour_eq_weights (f : List Symbol) : frameHour f =
    1 * symbolBit f 20 + 2 * symbolBit f 21 + 4 * symbolBit f 22 + 8 * symbolBit f 23
      + 10 * symbolBit f 25 + 20 * symbolBit f 26 := by
  rw [frameHour, digitAt, Nat.one_mul]

theorem frameDoy_eq_weights (f : List Symbol) : frameDoy f =
    1 * symbolBit f 30 + 2 * symbolBit f 31 + 4 * symbolBit f 32 + 8 * symbolBit f 33
      + 10 * symbolBit f 35 + 20 * symbolBit f 36 + 40 * symbolBit f 37 + 80 * symbolBit f 38
      + 100 * symbolBit f 40 + 200 * symbolBit f 41 := by
  rw [frameDoy, digitAt, digitAt]
  ring

theorem frameYear_eq_weights (c : Config) (f : List Symbol) : frameYear c f =
    c.yearBase + 1 * symbolBit f 4 + 2 * symbolBit f 5 + 4 * symbolBit f 6 + 8 * symbolBit f 7
      + 10 * symbolBit f 51 + 20 * symbolBit f 52 + 40 * symbolBit f 53 + 80 * symbolBit f 54 := by
  rw [frameYear, digitAt, digitAt]
  ring

/-- Settles O42: each field is its sum of weights over indices below 59, and there a symbol's bit is the test for `'1'`. -/
theorem decodeWeighsTheSymbols : Obligations.DecodeWeighsTheSymbols := by
  intro f s hlen bit
  have hbit (i : Nat) (hi : i < 59) : symbolBit f i = bit i := symbolBit_of_lt (hlen ▸ hi)
  rw [exec_decode, decodeFrame, frameYear_eq_weights, frameDoy_eq_weights, frameHour_eq_weights, frameMinute_eq_weights]
  simp only [hbit, Nat.reduceLT]

end Sys2Proof.Machine
end

section
/-! The words of 30_encoding.md: commands and events encoded and read back (R90 to R98), and the words the port presents (R94, R292). -/

namespace Sys2Proof

/-! ## One word per command -/

/-- The word of a 16-bit sample reads back as that sample: its data bits are the sample in two's complement (30_encoding.md R101). -/
theorem sampleData_toInt {x : Int} (h : fitsSigned sampleW x = true) : (sampleData x).toInt = x := by
  rw [Machine.fitsSigned_iff, sampleW] at h
  rw [sampleData, BitVec.toInt_ofNat', Int.toNat_of_nonneg (Int.emod_nonneg x (by decide))]
  exact (Int.emod_bmod x (2 ^ 16)).trans (Int.bmod_eq_of_le (by omega) (by omega))

/-- The word `encode` gives a command, well-formed for any configuration, decodes to that command (30_encoding.md R91). -/
theorem exists_word_of_command {c : Config} {i : Instr} (hwf : i.wellFormed c = true) (hi : isCommand i = true) :
    ∃ w, encode i = some w ∧ decodeWord w = i := by
  have hcmd := Laws.CmdField.cmdField_commandWord
  cases i with
  | nop => exact ⟨_, rfl, decodeWord_of_cmdField_eq_zero (hcmd _ _)⟩
  | sample x =>
    refine ⟨_, rfl, ?_⟩
    rw [decodeWord_of_cmdField_eq_one (hcmd _ _), dataField_commandWord, sampleData_toInt hwf]
  | cbit b =>
    refine ⟨_, rfl, ?_⟩
    rw [decodeWord_of_cmdField_eq_two (hcmd _ _), ← dataField_getLsbD_zero, dataField_commandWord]
    cases b <;> rfl
  | eos => exact ⟨_, rfl, decodeWord_of_cmdField_eq_three (hcmd _ _)⟩
  | _ => cases hi

/-- The decoder on numbers reads a command word as the decoder on words does. -/
theorem decode_toNat (w : CmdWord) : decode w.toNat = .ok (decodeWord w) := by
  rw [decode_of_lt w.isLt, BitVec.ofNat_toNat, BitVec.setWidth_eq]

/-- Settles O3: the encoder's word decodes to its command, and the decoder on numbers agrees with the one on words. -/
theorem decodeEncodeIsTheCommand : Obligations.DecodeEncodeIsTheCommand := by
  intro c i hwf hi
  obtain ⟨w, hw, hdec⟩ := exists_word_of_command hwf hi
  exact ⟨w, hw, hdec, by rw [decode_toNat, hdec]⟩

/-- A decoded sample is a 16-bit value, so every decoded command is well-formed. -/
theorem wellFormed_decodeWord (c : Config) (w : CmdWord) : (decodeWord w).wellFormed c = true := by
  rcases cmdField_cases w with h | h | h | h
  · rw [decodeWord_of_cmdField_eq_zero h]; rfl
  · rw [decodeWord_of_cmdField_eq_one h]
    exact Machine.fitsSigned_iff.2 ⟨BitVec.le_toInt _, BitVec.toInt_lt⟩
  · rw [decodeWord_of_cmdField_eq_two h]; rfl
  · rw [decodeWord_of_cmdField_eq_three h]; rfl

/-- Encoding a decoded command keeps the `cmd` field of its word. -/
theorem cmdField_encode_decodeWord {w w' : CmdWord} (h : encode (decodeWord w) = some w') : cmdField w' = cmdField w := by
  have hfield {cmd : BitVec 2} {data : BitVec 16} (hw : cmdField w = cmd) (h : some (commandWord cmd data) = some w') :
      cmdField w' = cmdField w := by
    cases h
    rw [Laws.CmdField.cmdField_commandWord, hw]
  rcases cmdField_cases w with hw | hw | hw | hw
  · rw [decodeWord_of_cmdField_eq_zero hw] at h
    exact hfield hw h
  · rw [decodeWord_of_cmdField_eq_one hw] at h
    exact hfield hw h
  · rw [decodeWord_of_cmdField_eq_two hw] at h
    exact hfield hw h
  · rw [decodeWord_of_cmdField_eq_three hw] at h
    exact hfield hw h

/-- Settles O4: a decoded command is well-formed, so it has a word, and encoding keeps the field. -/
theorem everyWordReencodes : Obligations.EveryWordReencodes := by
  intro w
  obtain ⟨w', hw', hdec⟩ := exists_word_of_command (wellFormed_decodeWord Config.reference w) (Machine.isCommand_decodeWord w)
  exact ⟨w', hw', cmdField_encode_decodeWord hw', hdec⟩

end Sys2Proof
end

section
/-! The event words of 30_encoding.md: codes, payload fields and reading back (R96 to R98). -/

namespace Sys2Proof.Machine

/-- Two words side by side, as a number. -/
theorem toNat_append_eq_add {m n : Nat} (a : BitVec m) (b : BitVec n) : (a ++ b).toNat = a.toNat * 2 ^ n + b.toNat := by
  rw [BitVec.toNat_append, ← Nat.shiftLeft_add_eq_or_of_lt b.isLt, Nat.shiftLeft_eq]

/-- The code stands above the 34 payload bits (30_encoding.md R96). -/
theorem eventWord_toNat (code : BitVec 3) (p : BitVec 34) : (eventWord code p).toNat = code.toNat * 2 ^ 34 + p.toNat :=
  toNat_append_eq_add code p

@[simp] theorem eventWord_code (code : BitVec 3) (p : BitVec 34) : (eventWord code p).extractLsb' 34 3 = code :=
  BitVec.extractLsb'_append_eq_left

@[simp] theorem eventWord_payload (code : BitVec 3) (p : BitVec 34) : (eventWord code p).extractLsb' 0 34 = p :=
  BitVec.extractLsb'_append_eq_right

/-! ## The payload of `TIME` -/

/-- The four values are within their payload fields (30_encoding.md R97). -/
def TimeFits (t : DecodedTime) : Prop := t.year < 2 ^ 12 ∧ t.doy < 2 ^ 9 ∧ t.hour < 2 ^ 6 ∧ t.minute < 2 ^ 7

/-- The payload fields of `TIME` stand at bits 22, 13, 7 and 0 (30_encoding.md R97). -/
theorem timePayload_toNat {t : DecodedTime} (h : TimeFits t) :
    (timePayload t).toNat = t.year * 2 ^ 22 + t.doy * 2 ^ 13 + t.hour * 2 ^ 7 + t.minute := by
  obtain ⟨hy, hd, hh, hm⟩ := h
  simp only [timePayload, toNat_append_eq_add, BitVec.toNat_ofNat, Nat.mod_eq_of_lt hy, Nat.mod_eq_of_lt hd, Nat.mod_eq_of_lt hh,
    Nat.mod_eq_of_lt hm]
  omega

/-- The fields of a `TIME` payload read back. -/
theorem timeOfPayload_timePayload {t : DecodedTime} (h : TimeFits t) : timeOfPayload (timePayload t) = t := by
  have hp := timePayload_toNat h
  obtain ⟨hy, hd, hh, hm⟩ := h
  simp only [timeOfPayload, BitVec.extractLsb'_toNat, hp, Nat.shiftRight_eq_div_pow]
  congr 1 <;> omega

/-- Settles O5: the reader takes code and payload apart again, and each payload gives back what it was made of. -/
theorem eventWordsReadBack : Obligations.EventWordsReadBack := by
  intro e htime
  unfold decodeEvent
  cases e with
  | sym y => cases y <;> decide
  | lock => decide
  | loss cause => cases cause <;> decide
  | time t => simp [encodeEvent, timeOfPayload_timePayload (htime t rfl)]
  | cfgerr err =>
    have hlt : (err.setWidth 34).toNat < 256 := by
      rw [BitVec.toNat_setWidth, Nat.mod_eq_of_lt (err.isLt.trans (by decide))]
      exact err.isLt
    have hread : (err.setWidth 34).extractLsb' 0 8 = err := by
      rw [BitVec.extractLsb'_setWidth_of_le (by decide), BitVec.extractLsb'_eq_self]
    simp only [encodeEvent, eventWord_code, eventWord_payload, hlt, hread]
    rfl
  | halt => decide

/-- Settles O6: fixed words are computed, and the others are the code's and the payload's numbers. -/
theorem eventWordLayout : Obligations.EventWordLayout := by
  refine ⟨rfl, rfl, rfl, rfl, rfl, rfl, rfl, rfl, rfl, rfl, rfl, fun t hy hd hh hm => ?time, fun err => ?cfgerr, rfl⟩
  case time =>
    rw [encodeEvent, eventWord_toNat, timePayload_toNat ⟨hy, hd, hh, hm⟩]
    simp only [BitVec.toNat_ofNat]
    omega
  case cfgerr =>
    have hlt : err.toNat < 2 ^ 34 := err.isLt.trans (by decide)
    rw [encodeEvent, eventWord_toNat, BitVec.toNat_setWidth, Nat.mod_eq_of_lt hlt]
    rfl

end Sys2Proof.Machine
end

section
/-! What a step takes from the port (40_step_and_commands.md R120; 30_encoding.md R94; 70_reset_and_hazards.md R292). -/

namespace Sys2Proof.Machine

variable {s : State} {rest : List PortInput}

/-! ## The step, one lemma per kind of presentation -/

/-- A command word presented after a `RESET` is decoded and run. -/
theorem step_of_word {w : CmdWord} (hin : s.input = { rst := none, cw := some w } :: rest) (hseen : s.resetSeen = true) :
    step s = exec (decodeWord w) { s with input := rest } := by
  simp [step, fetch, hin, hseen]

/-- The reset input runs `RESET`, whatever stands with it. -/
theorem step_of_reset {c : Config} {cw : Option CmdWord} (hin : s.input = { rst := some c, cw := cw } :: rest) :
    step s = exec (.reset c) { s with input := rest } := by
  simp [step, fetch, hin]

/-- A command word presented before the first `RESET` is refused. -/
theorem step_of_word_before_reset {w : CmdWord} (hin : s.input = { rst := none, cw := some w } :: rest)
    (hseen : s.resetSeen = false) : step s = .refused .commandBeforeReset := by
  simp [step, fetch, hin, hseen]

/-- With nothing presented the step changes nothing. -/
theorem step_of_nil (hin : s.input = []) : step s = .next s := by
  simp [step, fetch, hin]

/-- An entry with neither reset nor word is taken, and nothing is run. -/
theorem step_of_absent (hin : s.input = { rst := none, cw := none } :: rest) : step s = .next { s with input := rest } := by
  simp [step, fetch, hin]

/-- A table row of at least 18 bits holds a word of 18 bits whole. -/
theorem tableWord_of_lt {nbits w : Nat} (hw : w < 2 ^ 18) (hn : 18 ≤ nbits) : tableWord nbits w = w :=
  Nat.mod_eq_of_lt (hw.trans_le (Nat.pow_le_pow_right two_pos hn))

/-- Settles O7: one lemma per kind of presentation; the word that `withFetchWord` presents is the row's own. -/
theorem stepRunsThePresentedCommand : Obligations.StepRunsThePresentedCommand := by
  refine ⟨fun s w rest => step_of_word, fun s nbits w hw hn => ⟨?_, ?_⟩, fun s => step_of_nil, fun s rest => step_of_absent⟩
  · rw [step_of_word (s := s.withFetchWord nbits w) rfl rfl, tableWord_of_lt hw hn]
    rfl
  · rw [decodeTableWord, tableWord_of_lt hw hn, decode_of_lt hw]

/-- Settles O8: a decoded word is a command, which `RESET` is not, and the reset input is looked at first. -/
theorem resetOverridesTheCommandWord : Obligations.ResetOverridesTheCommandWord := by
  refine ⟨fun w c hw => ?_, fun s c cw rest => step_of_reset⟩
  have hcmd := isCommand_decodeWord w
  rw [hw] at hcmd
  cases hcmd

/-- Settles O9: the port refuses the word, and a legal `RESET` sets the flag. -/
theorem commandBeforeResetIsRefused : Obligations.CommandBeforeResetIsRefused := by
  intro s rest hseen
  constructor
  · intro w hin
    exact step_of_word_before_reset hin hseen
  · intro c cw hin hc
    exact ⟨resetCore c { s with input := rest }, by rw [step_of_reset hin, exec_reset_of_valid hc], rfl⟩

/-- Settles O1: each word's `cmd` field and data bits are computed. -/
theorem writtenOutWordsDecode : Obligations.WrittenOutWordsDecode := by
  unfold Obligations.WrittenOutWordsDecode
  decide

end Sys2Proof.Machine
end

section
/-! `RESET` (70_reset_and_hazards.md R290) and the status fields (10_state.md R41). -/

namespace Sys2Proof.Machine

variable {c : Config} {s : State}

/-- `TplRead` gives every bit of every template of the configuration (43_templates_correlator.md R181). -/
theorem tplRead_templateRom_of_lt (t : Template) {i : Nat} (h : i < c.tplLen) :
    tplRead (templateRom c) t i = some (decide (i < c.act t * c.spb)) := by
  rw [tplRead_templateRom, templateBits_getElem? c t h]

/-- A second `RESET` finds nothing to change. -/
theorem resetCore_idem (c : Config) (s : State) : resetCore c (resetCore c s) = resetCore c s := rfl

/-- Settles O10: `resetCore` writes the reset value of each element, and the ROM holds the configuration's templates. -/
theorem resetInstallsTheResetState : Obligations.ResetInstallsTheResetState := by
  intro c s
  refine ⟨fun hv => ⟨resetCore c s, exec_reset_of_valid hv s, rfl, fun n => ?length, fun n i hi => ?bit, rfl, rfl, rfl, rfl, rfl, rfl,
    rfl, rfl, rfl, rfl, rfl, rfl, rfl, rfl, rfl, rfl, rfl, rfl, ?twice⟩, fun hv => ?refused⟩
  case length =>
    show (romTemplate (templateRom c) n).length = c.tplLen
    rw [romTemplate_templateRom, templateBits_length]
  case bit => exact tplRead_templateRom_of_lt n hi
  case twice => rw [exec_reset_of_valid hv, resetCore_idem]
  case refused => exact exec_reset_of_not_valid (by simp [hv]) s

/-- `RESET` with a legal configuration establishes the invariant (10_state.md R45). -/
theorem resetCore_inv (hv : c.valid = true) (s : State) : MachineInv (resetCore c s) := by
  obtain ⟨-, -, -, ⟨-, -, hring⟩, -, ⟨hthrLower, hthrUpper⟩, -⟩ := config_valid_iff.1 hv
  have hlen := tplLen_ge hv
  have hfrac : (0 : Int) < 2 ^ c.frac := by positivity
  refine ⟨⟨hv, rfl⟩, ?conditioning, ?detector, ⟨windowCanonical_nil, ?bound⟩, ⟨rfl, Nat.zero_le _, rfl⟩⟩
  case conditioning =>
    have hzero : ∀ n, ∀ v ∈ List.replicate n (0 : Int), fitsSigned c.sigW v = true := by
      intro n v hmem
      rw [List.eq_of_mem_replicate hmem]
      simp [fitsSigned]
    exact {
      dc_lower := by show -(2 ^ 15) * 2 ^ c.frac ≤ (0 : Int); omega
      dc_upper := by show (0 : Int) ≤ (2 ^ 15 - 1) * 2 ^ c.frac; omega
      xh_length := List.length_replicate
      yh_length := List.length_replicate
      xh_range := hzero _
      yh_range := hzero _
      env1_range := Nat.zero_le _ }
  case detector =>
    exact {
      env2_range := Nat.zero_le _
      ring_length := List.length_replicate
      ring_range := by
        intro v hmem
        rw [List.eq_of_mem_replicate hmem]
        exact Nat.zero_le _
      ring_index := hring
      ring_sum := by simp [resetCore]
      thr_lower := hthrLower
      thr_upper := hthrUpper }
  case bound =>
    show 0 < c.tplLen
    omega

/-- With nothing presented and nothing drawn, `RESET` with the reference configuration leaves the reset state. -/
theorem resetCore_reference (hin : s.input = []) (hdraws : s.draws = 0) : resetCore Config.reference s = State.reset := by
  simp only [resetCore, hin, hdraws]
  rfl

theorem reference_valid : Config.reference.valid = true := by decide

/-- Settles O44: `resetCore` has the invariant, and `State.reset` is what it leaves. -/
theorem invariantHoldsAfterReset : Obligations.InvariantHoldsAfterReset := by
  refine ⟨fun c s hv => ⟨_, exec_reset_of_valid hv s, resetCore_inv hv s⟩, ?_, fun s hin hdraws => ?_⟩
  · exact resetCore_reference (s := State.reset) rfl rfl ▸ resetCore_inv reference_valid State.reset
  · rw [exec_reset_of_valid reference_valid, resetCore_reference hin hdraws]

/-- Settles O60: the index and the one-bit elements are matched. -/
theorem statusFieldsHoldTheirElements : Obligations.StatusFieldsHoldTheirElements := by
  have hbit (b : Bool) : some b.toNat = some (if b then 1 else 0) := by cases b <;> rfl
  have hphase {s : State} {p : Phase} (h : s.phase = p) : statusField s 0 = some (phaseCode p) := h ▸ rfl
  intro s
  refine ⟨hphase, hphase, hphase, rfl, rfl, hbit _, hbit _, rfl, hbit _, rfl, fun k hk => ?_, rfl, rfl⟩
  obtain ⟨j, rfl⟩ := Nat.exists_eq_add_of_le' hk
  rfl

end Sys2Proof.Machine
end

section
/-! Signal conditioning as operations: `DCBLOCK`, `BPF`, `ENV1`, `ENV2`, `NORM` (41_conditioning.md; 42_detector.md R161). -/

namespace Sys2Proof.Machine

variable {a : Int} {k : Nat}

/-- `asr` is the floor division of 00_scope.md R11. -/
theorem asr_eq_fdiv (a : Int) (k : Nat) : asr a k = Int.fdiv a (2 ^ k) :=
  (Int.fdiv_eq_ediv_of_nonneg a (by positivity)).symm

/-- A shift gives 0 exactly for the values of at least 0 and below one unit. -/
theorem asr_eq_zero_iff : asr a k = 0 ↔ 0 ≤ a ∧ a < 2 ^ k := by
  have hk : (0 : Int) < 2 ^ k := by positivity
  rw [asr]
  constructor
  · intro h
    have := Int.emod_add_mul_ediv a (2 ^ k)
    have := Int.emod_nonneg a hk.ne'
    have := Int.emod_lt_of_pos a hk
    rw [h] at *
    omega
  · rintro ⟨h0, h1⟩
    exact Int.ediv_eq_zero_of_lt h0 h1

@[simp] theorem asr_zero_right (a : Int) : asr a 0 = a := by simp [asr]

/-- A whole number of units comes back whole. -/
theorem asr_mul_two_pow (x : Int) (k : Nat) : asr (x * 2 ^ k) k = x :=
  Int.mul_ediv_cancel x (by positivity)

/-- A whole number of units bounds the shifted value. -/
theorem asr_mem_range {lo hi : Int} (h : lo * 2 ^ k ≤ a ∧ a ≤ hi * 2 ^ k) : lo ≤ asr a k ∧ asr a k ≤ hi := by
  have hk : (0 : Int) < 2 ^ k := by positivity
  constructor
  · exact (Int.le_ediv_iff_mul_le hk).2 h.1
  · exact Int.ediv_le_of_le_mul hk h.2

/-- `hp` is within `-65535 .. 65535` for a sample and a tracker in range (41_conditioning.md R141); `dcBlock_hp_range` says so under
the whole conditioning invariant. -/
theorem dcBlock_hp_range_of_dc_range {x : Int} {s : State} (hx : -32768 ≤ x ∧ x ≤ 32767)
    (hdc : -32768 * 2 ^ s.cfg.frac ≤ s.dc ∧ s.dc ≤ 32767 * 2 ^ s.cfg.frac) :
    -65535 ≤ (dcBlock x s).wires.hp ∧ (dcBlock x s).wires.hp ≤ 65535 := by
  have hk : (0 : Int) ≤ 2 ^ s.cfg.frac := by positivity
  have hxlower := mul_le_mul_of_nonneg_right hx.1 hk
  have hxupper := mul_le_mul_of_nonneg_right hx.2 hk
  have htrack := track_between s.dc (x * 2 ^ s.cfg.frac) s.cfg.dcShift
  have hmean : -32768 ≤ asr (dcBlock x s).dc s.cfg.frac ∧ asr (dcBlock x s).dc s.cfg.frac ≤ 32767 := by
    refine asr_mem_range ⟨?_, ?_⟩
    · exact (le_min hdc.1 hxlower).trans htrack.1
    · exact htrack.2.trans (max_le hdc.2 hxupper)
  show -65535 ≤ x - asr (dcBlock x s).dc s.cfg.frac ∧ x - asr (dcBlock x s).dc s.cfg.frac ≤ 65535
  omega

/-- Settles O18: the tracker moves by a shifted difference, between its old value and its input. -/
theorem dcBlockTracksTheMean : Obligations.DcBlockTracksTheMean := by
  intro x s
  obtain ⟨hlower, hupper⟩ := track_between s.dc (x * 2 ^ s.cfg.frac) s.cfg.dcShift
  refine ⟨dcBlock x s, rfl, rfl, ?dc, ?hp, hlower, hupper, ?rest, fun hshift => ?copy, fun hx hx' hd hd' => ?range⟩
  case dc => rw [← asr_eq_fdiv]; rfl
  case hp => rw [← asr_eq_fdiv]; rfl
  case rest => rw [← asr_eq_zero_iff, dcBlock_dc, add_eq_left]
  case copy =>
    have hdc : (dcBlock x s).dc = x * 2 ^ s.cfg.frac := by
      rw [dcBlock_dc, hshift, asr_zero_right]
      ring
    show x - asr (dcBlock x s).dc s.cfg.frac = 0
    rw [hdc, asr_mul_two_pow, sub_self]
  case range => exact dcBlock_hp_range_of_dc_range ⟨hx, hx'⟩ ⟨hd, hd'⟩

/-- The filter's sums are those of R143. -/
theorem dot_eq_sum_zipWith (as xs : List Int) : dot as xs = (as.zipWith (· * ·) xs).sum := by
  induction as generalizing xs with
  | nil => simp [dot]
  | cons a as ih => cases xs with
    | nil => simp [dot]
    | cons x xs => simp [dot, ih]

/-- A signed `n`-bit value lies between the two saturation values. -/
theorem range_of_fits {n : Nat} {v : Int} (h : fitsSigned n v = true) : -(2 ^ (n - 1)) ≤ v ∧ v ≤ 2 ^ (n - 1) - 1 := by
  rw [fitsSigned_iff] at h
  omega

theorem filterOut_of_no_error {s : State} (h : s.cfg.bpfErr = 0) (hp : Int) :
    filterOut hp s = sat s.cfg.sigW (rsh (filterAcc hp s) s.cfg.bpfFrac) :=
  if_pos h

/-- Settles O19: the output is a saturated value in both cases, and `BPF_ERR` alone decides which. -/
theorem filterOutputAndHistories : Obligations.FilterOutputAndHistories := by
  intro hp s
  obtain ⟨hlower, hupper⟩ := range_of_fits (filterOut_fits hp s)
  refine ⟨bandPass hp s, rfl, rfl, fun herr => ⟨if_pos herr, ?output⟩, fun herr => if_neg herr, hlower, hupper, rfl, rfl⟩
  case output =>
    show filterOut hp s = _
    rw [filterOut_of_no_error herr, filterAcc, dot_eq_sum_zipWith, dot_eq_sum_zipWith]

/-- A whole number of units is not rounded. -/
theorem rsh_mul_two_pow (x : Int) (k : Nat) : rsh (x * 2 ^ k) k = x := by
  unfold rsh
  split
  case isTrue hk => rw [hk, pow_zero, mul_one]
  case isFalse hk =>
    obtain ⟨j, rfl⟩ := Nat.exists_eq_succ_of_ne_zero hk
    have hhalf : (0 : Int) ≤ 2 ^ j := by positivity
    have hlt : (2 : Int) ^ j < 2 ^ (j + 1) := pow_lt_pow_right₀ (by norm_num) (Nat.lt_succ_self j)
    rw [asr, Nat.succ_eq_add_one, Nat.add_sub_cancel, add_comm, Int.add_mul_ediv_right _ _ (by positivity),
      Int.ediv_eq_zero_of_lt hhalf hlt, zero_add]

/-- Settles O20: the one product is a whole number of units and within the signal word. -/
theorem passThroughReturnsItsInput : Obligations.PassThroughReturnsItsInput := by
  intro hp s hB hA herr hw hlower hupper
  have hfits : fitsSigned s.cfg.sigW hp = true := by
    refine fits_mono hw (fitsSigned_iff.2 ?_)
    norm_num
    omega
  have hacc : filterAcc hp s = hp * 2 ^ s.cfg.bpfFrac := by
    rw [filterAcc, hB, hA, dot, dot, dot]
    ring
  have hout : filterOut hp s = hp := by
    rw [filterOut_of_no_error herr, hacc, rsh_mul_two_pow, sat_of_fits hfits]
  show Host.Outcome.next (bandPass hp s) = _
  simp [bandPass, hout, Config.bpfNB, Config.bpfNA, hB, hA, herr]

/-- Settles O22: both followers are bounded as their input and estimate are, and their levels with them. -/
theorem envelopesFollowTheirInput : Obligations.EnvelopesFollowTheirInput := by
  intro v s
  refine ⟨⟨envelope1 v s, rfl, rfl, rfl, rfl, fun henv hv => ?env1⟩, ⟨envelope2 v s, rfl, rfl, rfl, rfl, fun henv hv => ?env2⟩⟩
  case env1 =>
    have hreg : (envelope1 v s).env1 ≤ _ := follow_le henv hv
    refine ⟨hreg, le_max_right _ _, max_le ?_ (le_max_left _ _)⟩
    exact (lsr_le_of_le hreg).trans (le_max_right _ _)
  case env2 =>
    have hreg : (envelope2 v s).env2 ≤ _ := follow_le henv hv
    exact ⟨hreg, lsr_le_of_le hreg⟩

/-- Settles O23: above 0 the quotient is the library's truncating one, which is odd, and saturation leaves both signs alone. -/
theorem normaliserScalesByTarget : Obligations.NormaliserScalesByTarget := by
  intro bp lvl s
  obtain ⟨hlower, hupper⟩ := range_of_fits (sat_fits s.cfg.sigW (tdiv (bp * s.cfg.target) lvl))
  refine ⟨_, rfl, hlower, hupper, fun hlvl => ?_⟩
  have hdiv (v : Int) : tdiv v lvl = Int.tdiv v lvl := tdiv_eq_tdiv hlvl.ne'
  rw [hdiv]
  refine ⟨rfl, ?zero, fun hfits hneg => ?odd⟩
  case zero =>
    rintro rfl
    rw [zero_mul, Int.zero_tdiv]
    exact sat_of_fits (by simp [fitsSigned])
  case odd =>
    show Host.Outcome.next (normalise (-bp) lvl s) = _
    rw [normalise, hdiv, neg_mul, Int.neg_tdiv, sat_of_fits hfits, sat_of_fits hneg]

end Sys2Proof.Machine
end

section
/-! The detector's ring and threshold as operations (42_detector.md R163, R167; 20_memory.md R69). -/

namespace Sys2Proof.Machine

/-- `MAVG` of an index inside the ring (42_detector.md R163; 20_memory.md R69). -/
theorem exec_mavg_of_lt {s : State} (h : s.mpos < s.cfg.mavgLen) (v : Nat) : exec (.mavg v) s = .next (averageOut { s with
    msum := s.msum - s.mbuf.getD s.mpos 0 + v, mbuf := s.mbuf.set s.mpos v, mpos := (s.mpos + 1) % s.cfg.mavgLen }) :=
  movingAverage_eq_next.2 ⟨_, mavgSwap_eq_next.2 ⟨h, rfl⟩, rfl⟩

/-- `MAVG` of an index outside the ring stops. -/
theorem exec_mavg_of_le {s : State} (h : s.cfg.mavgLen ≤ s.mpos) (v : Nat) : exec (.mavg v) s = .fault .ringIndexOutOfRange := by
  show movingAverage v s = _
  rw [movingAverage, mavgSwap, if_neg h.not_gt, andThen_fault]

/-- A ring of one entry holds what was written last. -/
theorem sum_set_of_length_one {l : List Nat} (hl : l.length = 1) (v : Nat) : (l.set 0 v).sum = v := by
  obtain ⟨a, rfl⟩ := List.length_eq_one_iff.1 hl
  simp

/-- Settles O24: one entry of the ring is replaced, and the sum follows by `sum_set`. -/
theorem movingAverageIsTheRingsMean : Obligations.MovingAverageIsTheRingsMean := by
  intro v s
  refine ⟨fun hpos hlen hsum => ?_, fun hpos => exec_mavg_of_le hpos v⟩
  have hin : s.mpos < s.mbuf.length := hlen ▸ hpos
  have hsum' : s.msum - s.mbuf.getD s.mpos 0 + v = (s.mbuf.set s.mpos v).sum := by rw [sum_set _ _ _ hin, hsum]
  refine ⟨_, exec_mavg_of_lt hpos v, rfl, List.getElem?_set_self hin, fun i hi => List.getElem?_set_ne (Ne.symm hi), rfl, hsum',
    congrArg (· / s.cfg.mavgLen) hsum', fun hone => ?_⟩
  have hzero : s.mpos = 0 := by omega
  show (s.msum - s.mbuf.getD s.mpos 0 + v) / s.cfg.mavgLen = v
  rw [hsum', hzero, sum_set_of_length_one (hlen.trans hone), hone, Nat.div_one]

/-- Settles O26: the written threshold is `adaptedThreshold`'s, within the clamps of a legal configuration. -/
theorem adaptClampsTheThreshold : Obligations.AdaptClampsTheThreshold := by
  intro m s
  refine ⟨adaptedThreshold s.cfg m, rfl, rfl, fun hv => ?_⟩
  obtain ⟨hlower, hupper⟩ := adaptedThreshold_range hv m
  obtain ⟨-, -, -, -, ⟨-, hclamp⟩, -, hden, -⟩ := config_valid_iff.1 hv
  refine ⟨hlower, hupper, fun hm => ?lowest, fun hratio hm => ?highest⟩
  case lowest => rw [adaptedThreshold, hm, Nat.zero_mul, Nat.zero_div, Nat.max_zero, Nat.min_eq_right hclamp]
  case highest =>
    rw [adaptedThreshold, hratio, Nat.mul_div_cancel _ hden]
    exact Nat.min_eq_left (hm.trans (le_max_right _ _))

end Sys2Proof.Machine
end

section
/-! The template ROM and the distances between templates (43_templates_correlator.md R181, R183, R186). -/

namespace Sys2Proof.Machine

/-- Settles O28: the ROM is the configuration's, and R9 asks that `FS` is a multiple of 100. -/
theorem tplgenWritesActiveThenGap : Obligations.TplgenWritesActiveThenGap := by
  refine ⟨fun s => ⟨templateRom s.cfg, rfl, fun n => ?_⟩, fun c s hfs => exec_reset_of_not_valid (fun hv => ?_) s⟩
  · rw [romTemplate_templateRom]
    exact ⟨templateBits_eq_replicate, templateBits_length s.cfg n, fun i hi => tplRead_templateRom_of_lt n hi⟩
  · obtain ⟨⟨-, hmult⟩, -⟩ := config_valid_iff.1 hv
    exact hfs hmult

/-- As many indices of a range are flipped as there are flips. -/
theorem countP_mem_range {flips : List Nat} {n : Nat} (hnodup : flips.Nodup) (hlt : ∀ i ∈ flips, i < n) :
    (List.range n).countP (fun i => decide (i ∈ flips)) = flips.length := by
  rw [List.countP_eq_length_filter]
  refine List.Perm.length_eq ((List.perm_ext_iff_of_nodup (List.nodup_range.filter _) hnodup).2 fun i => ?_)
  simpa using hlt i

/-- Inverting the bits at distinct positions makes as many mismatches. -/
theorem mismatches_flips {a : List Bool} {flips : List Nat} (hnodup : flips.Nodup) (hlt : ∀ i ∈ flips, i < a.length) :
    mismatches a (a.mapIdx fun i x => if i ∈ flips then !x else x) = flips.length := by
  rw [mismatches_eq_countP, List.length_mapIdx, Nat.min_self, ← countP_mem_range hnodup hlt]
  refine List.countP_congr fun i hi => ?_
  rw [List.getElem?_mapIdx, List.getElem?_eq_getElem (List.mem_range.1 hi)]
  by_cases hflip : i ∈ flips <;> simp [hflip]

/-- Settles O30: `MATCH` is a count of mismatches, which is symmetric, and flips of distinct positions are counted one by one. -/
theorem matchIsSymmetricAndMonotone : Obligations.MatchIsSymmetricAndMonotone := by
  refine ⟨fun c a b => ?_, fun c a flips hnodup hlt => ?_⟩
  · rw [matchBits_eq, matchBits_eq, mismatches_comm, Nat.min_comm]
  · rw [matchBits_eq, mismatches_flips hnodup hlt, List.length_mapIdx, Nat.min_self, matchBound]

theorem mismatches_append {a b : List Bool} (h : a.length = b.length) (a' b' : List Bool) :
    mismatches (a ++ a') (b ++ b') = mismatches a b + mismatches a' b' := by
  rw [mismatches, List.zip_append h, List.countP_append]
  rfl

/-- Two runs of ones of one total length differ where only the longer is 1. -/
theorem mismatches_ones_zeros (k d n : Nat) :
    mismatches (List.replicate (k + d) true ++ List.replicate n false) (List.replicate k true ++ List.replicate (d + n) false) = d := by
  have hd : mismatches (List.replicate d true) (List.replicate d false) = d := by
    simp [mismatches, List.countP_replicate]
  rw [List.replicate_add, List.replicate_add, List.append_assoc, mismatches_append rfl, mismatches_self,
    mismatches_append (by simp), mismatches_self, hd, Nat.zero_add, Nat.add_zero]

/-- The distance of two templates, that of their active runs (43_templates_correlator.md R183). -/
theorem mismatches_templateBits {c : Config} {t u : Template} {d : Nat} (h : c.act t = c.act u + d) (ht : c.act t ≤ tplBlocks) :
    mismatches (templateBits c t) (templateBits c u) = d * c.spb := by
  have hact : c.act t * c.spb = c.act u * c.spb + d * c.spb := by rw [h, Nat.add_mul]
  have hlen : c.act t * c.spb ≤ c.tplLen := Nat.mul_le_mul_right c.spb ht
  have hgap : c.tplLen - c.act u * c.spb = d * c.spb + (c.tplLen - c.act t * c.spb) := by omega
  rw [templateBits, templateBits, hgap, Nat.min_eq_left hlen, Nat.min_eq_left (by omega), hact]
  exact mismatches_ones_zeros _ _ _

/-- No sequence is close to two templates whose distance exceeds both tolerances (43_templates_correlator.md R183 (c)). -/
theorem not_both_match {c : Config} {a b w : List Bool} (ha : a.length = w.length) (hb : b.length = w.length)
    (hfar : 2 * matchBound c w.length < mismatches a b) : ¬ (matchBits c w a = true ∧ matchBits c w b = true) := by
  rw [matchBits_eq, matchBits_eq, ha, hb, Nat.min_self, decide_eq_true_iff, decide_eq_true_iff]
  have := mismatches_triangle a b w ha hb
  omega

end Sys2Proof.Machine

namespace Sys2Proof

open Machine

section Source

variable {c : Config} (href : ReferenceTemplates c)
include href

theorem ReferenceTemplates.act_ref : c.act .ref = 77 := href.actR
theorem ReferenceTemplates.act_pos : c.act .pos = 77 := href.actP
theorem ReferenceTemplates.act_one : c.act .one = 47 := href.act1
theorem ReferenceTemplates.act_zero : c.act .zero = 17 := href.act0

/-- At the source's tolerance 12 of each 100 bits may differ. -/
theorem ReferenceTemplates.matchBound_tplLen : matchBound c c.tplLen = 12 * c.spb := by
  rw [matchBound, href.tolNum, href.tolDen, Config.tplLen, tplBlocks]
  omega

/-- REF and POS are the same bits (43_templates_correlator.md R183 (a)). -/
theorem ReferenceTemplates.templateBits_ref_eq_pos : templateBits c .ref = templateBits c .pos := by
  rw [templateBits, templateBits, href.act_ref, href.act_pos]

/-- Templates at least 30 blocks apart are not matched by one window. -/
theorem ReferenceTemplates.not_both_match {t u : Template} {d : Nat} (hv : c.valid = true) (h : c.act t = c.act u + d)
    (ht : c.act t ≤ tplBlocks) (hd : 30 ≤ d) {w : List Bool} (hw : w.length = c.tplLen) :
    ¬ (matchBits c w (templateBits c t) = true ∧ matchBits c w (templateBits c u) = true) := by
  refine Machine.not_both_match (by rw [templateBits_length, hw]) (by rw [templateBits_length, hw]) ?_
  have hfar := Nat.mul_le_mul_right c.spb hd
  have hpos := spb_pos hv
  rw [hw, href.matchBound_tplLen, mismatches_templateBits h ht]
  omega

end Source

/-- Settles O31: the templates' active runs are 77, 47 and 17 blocks, 30 or more apart, and twice the tolerance is 24. -/
theorem noWindowMatchesTwoTemplates : Obligations.NoWindowMatchesTwoTemplates := by
  intro c hv href
  have hr := href.act_ref
  have h1 := href.act_one
  have h0 := href.act_zero
  refine ⟨href.templateBits_ref_eq_pos, fun w hw => ⟨?refOne, ?refZero, ?oneZero⟩⟩
  case refOne => exact href.not_both_match (d := 30) hv (by rw [hr, h1]) (by rw [hr]; decide) (by decide) hw
  case refZero => exact href.not_both_match (d := 60) hv (by rw [hr, h0]) (by rw [hr]; decide) (by decide) hw
  case oneZero => exact href.not_both_match (d := 30) hv (by rw [h1, h0]) (by rw [h1]; decide) (by decide) hw

end Sys2Proof
end

section
/-! Window, frame, counters and loss as operations (20_memory.md R63 to R67; 44_window_controller.md R209, R213;
60_exceptions.md R264), and the ranges of a decoded frame (45_timecode_decode.md R241). -/

namespace Sys2Proof.Machine

variable {s : State}

/-- Settles O32: both pushes look at their capacity, and `WPUSH` first at a 0 on an empty window. -/
theorem pushesWithinCapacity : Obligations.PushesWithinCapacity := by
  intro s
  refine ⟨rfl, fun b hlen => windowPush_of_lt hlen b, fun b hlen hne => ?_, fun y hlen => if_pos hlen, fun y hlen => if_neg hlen.not_gt⟩
  show windowPush b s = _
  rw [windowPush, if_neg (fun h => hne h.1), if_neg hlen.not_gt]

/-- Settles O34: the window is its leading zeros and what `WSTRIP` leaves. -/
theorem wstripRemovesTheLeadingZeros : Obligations.WstripRemovesTheLeadingZeros := by
  intro s
  obtain ⟨n, hn⟩ := exists_zeros_append_stripZeros s.win
  exact ⟨n, stripZeros s.win, hn, stripZeros_eq_nil_or_head? s.win, rfl⟩

/-- A symbol accepted at `dbr` 0 stops at the count-down. -/
theorem acceptData_of_dbr_eq_zero (hroom : s.frame.length < s.cfg.frameCap) (hdbr : s.dbr = 0) (y : Symbol) :
    acceptData y s = .fault .counterUnderflow := by
  simp [acceptData, framePush, hroom, countDownDbr, emit, hdbr]

/-- Settles O39: a matching window reaches the count-down, which stops at 0. -/
theorem countersStopAtZero : Obligations.CountersStopAtZero := by
  intro s hrom hlen hroom
  simp only [← windowMatches_eq hrom hlen]
  refine ⟨fun hdbr hm => ?data, fun hpr hm => ?pos⟩
  case data =>
    show classifyData s = _
    rw [classifyData]
    rcases Bool.eq_false_or_eq_true (windowMatches s .one) with h1 | h1
    · rw [if_pos h1, acceptData_of_dbr_eq_zero hroom hdbr]
    · rw [if_neg (by simp [h1]), if_pos (hm.resolve_left (by simp [h1])), acceptData_of_dbr_eq_zero hroom hdbr]
  case pos =>
    show classifyPosition s = _
    simp [classifyPosition, hm, framePush, hroom, countDownPr, emit, hpr]

/-- Settles O41: `raiseLoss` is this record. -/
theorem lossResetsTheController : Obligations.LossResetsTheController := fun _ _ => rfl

theorem symbolBit_le_one (f : List Symbol) (i : Nat) : symbolBit f i ≤ 1 := by
  unfold symbolBit
  split
  case h_5 => exact Bool.toNat_le _
  all_goals omega

theorem digitAt_le (f : List Symbol) (i : Nat) : digitAt f i ≤ 15 := by
  have h0 := symbolBit_le_one f i
  have h1 := symbolBit_le_one f (i + 1)
  have h2 := symbolBit_le_one f (i + 2)
  have h3 := symbolBit_le_one f (i + 3)
  rw [digitAt]
  omega

/-- Inside both frames a symbol's bit is the symbol's alone. -/
theorem symbolBit_congr {f g : List Symbol} {i : Nat} (hf : i < f.length) (hg : i < g.length) (h : f[i]? = g[i]?) :
    symbolBit f i = symbolBit g i := by
  rw [symbolBit_of_lt hf, symbolBit_of_lt hg, List.getD_eq_getElem?_getD, List.getD_eq_getElem?_getD, h]

/-- Settles O43: a bit is at most 1 and a digit at most 15; the fields of R241 read no index of the list. -/
theorem decodeRangesAndUnreadIndices : Obligations.DecodeRangesAndUnreadIndices := by
  refine ⟨fun c f => ?ranges, fun c f g hf hg hsame => ?unread⟩
  case ranges =>
    have hbit := symbolBit_le_one f
    have hdigit := digitAt_le f
    simp only [decodeFrame, frameMinute, frameHour, frameDoy, frameYear]
    have := hdigit 10; have := hdigit 20; have := hdigit 30; have := hdigit 35; have := hdigit 4; have := hdigit 51
    have := hbit 15; have := hbit 16; have := hbit 17; have := hbit 25; have := hbit 26; have := hbit 40; have := hbit 41
    omega
  case unread =>
    have hread (i : Nat) (hi : ¬ (i ≤ 3 ∨ i = 8 ∨ i = 9 ∨ i = 14 ∨ i = 18 ∨ i = 19 ∨ i = 24 ∨ (27 ≤ i ∧ i ≤ 29) ∨ i = 34 ∨
        i = 39 ∨ (42 ≤ i ∧ i ≤ 50) ∨ 55 ≤ i)) : symbolBit f i = symbolBit g i :=
      symbolBit_congr (by omega) (by omega) ((hsame i).resolve_right hi)
    simp (disch := decide) only [decodeFrame, frameYear, frameDoy, frameHour, frameMinute, digitAt, hread]

end Sys2Proof.Machine
end

section
/-! What a `SAMPLE` or `CBIT` step hands to `CTL`, and what `CTL` makes of it (40_step_and_commands.md R121, R124;
44_window_controller.md R201). -/

namespace Sys2Proof.Machine

variable {s t u v : State}

/-! ## CTL -/

/-- A push that goes on leaves the pushed window. -/
theorem windowPush_eq_pushed {b : Bool} (h : windowPush b s = .next u) : u = { s with win := pushed b s.win } := by
  obtain ⟨hwin, hb, rfl⟩ | ⟨hne, -, rfl⟩ := windowPush_eq_next.1 h
  · rw [pushed, if_pos ⟨hwin, hb⟩, ← hwin]
  · rw [pushed, if_neg hne]

/-- A classification leaves the wires alone. -/
theorem classify_wires (h : classify s = .next t) : t.wires = s.wires := by
  obtain ⟨w, p, d, r, l, f, e, rfl⟩ := classify_frame h
  rfl

/-- Everything `CTL` can do, with the flag it answers (44_window_controller.md R201, R202). -/
theorem control_cases {b : Bool} (h : control b s = .next t) :
    ((pushed b s.win).length = s.cfg.tplLen ∧ t.wires.adapt = true ∧
      classify (setAdapt true { s with win := pushed b s.win }) = .next t) ∨
    ((pushed b s.win).length ≠ s.cfg.tplLen ∧ t = setAdapt false { s with win := pushed b s.win }) := by
  obtain ⟨u, hu, ⟨hlen, hc⟩ | ⟨hlen, rfl⟩⟩ := control_eq_next.1 h
  · obtain rfl := windowPush_eq_pushed hu
    exact .inl ⟨hlen, by rw [classify_wires hc]; rfl, hc⟩
  · obtain rfl := windowPush_eq_pushed hu
    exact .inr ⟨hlen, rfl⟩

/-- `adapt` says whether the push filled the window (44_window_controller.md R202). -/
theorem control_adapt_iff {b : Bool} (h : control b s = .next t) :
    t.wires.adapt = true ↔ (pushed b s.win).length = s.cfg.tplLen := by
  obtain ⟨hlen, hadapt, -⟩ | ⟨hlen, rfl⟩ := control_cases h
  · simp only [hlen, hadapt]
  · simp [setAdapt, hlen]

/-! ## Before CTL -/

/-- `u` is `s` as `CTL` finds it in a step: the event list empty, and nothing else written but what conditioning and detector write. -/
def AtControl (s u : State) : Prop :=
  ∃ dc xh yh e1 e2 b p m g w d, u = { s with
    dc := dc, xh := xh, yh := yh, env1 := e1, env2 := e2, mbuf := b, mpos := p, msum := m, gate := g, events := [], wires := w
    draws := d }

/-- The filter draws a free output only while `BPF_ERR` is not 0 (41_conditioning.md R145). -/
theorem conditionSample_draws (x : Int) (s : State) :
    (conditionSample x s).draws = if s.cfg.bpfErr = 0 then s.draws else s.draws + 1 := rfl

/-- A running core's `SAMPLE` step is `CTL` of its gate, which is also on the wire of the carrier bit, and then `ADAPT`, if asked. -/
theorem exec_sample_atControl {x : Int} (hrun : s.halted = false) (h : exec (.sample x) s = .next t) :
    ∃ u v m, AtControl s u ∧ u.wires.cbit = u.gate ∧ u.draws = (if s.cfg.bpfErr = 0 then s.draws else s.draws + 1) ∧
      control u.gate u = .next v ∧ t = adaptIfAsked m v := by
  obtain ⟨hhalt, -⟩ | ⟨-, u, v, hu, hv, rfl⟩ := exec_sample_eq_next.1 h
  · simp [hrun] at hhalt
  · have hdraws := conditionSample_draws x (beginStep s)
    obtain ⟨dc, xh, yh, e1, e2, w, d, hcond⟩ := conditionSample_frame x (beginStep s)
    rw [hcond] at hu hdraws
    obtain ⟨b, p, m, a, rfl⟩ := movingAverage_frame hu
    refine ⟨noiseGate _ _, v, _, ?_, ?_, ?_, hv, rfl⟩
    · exact ⟨_, _, _, _, _, _, _, _, _, _, _, rfl⟩
    · rfl
    · exact hdraws

/-- A running core's `CBIT` step is `CTL` of its bit and then `ADAPT` of the ring's average, if asked. -/
theorem exec_cbit_atControl {b : Bool} (hrun : s.halted = false) (h : exec (.cbit b) s = .next t) :
    ∃ v, control b (beginStep s) = .next v ∧ t = adaptIfAsked (ringAverage v) v := by
  obtain ⟨hhalt, -⟩ | ⟨-, hv⟩ := exec_cbit_eq_next.1 h
  · simp [hrun] at hhalt
  · exact hv

theorem beginStep_atControl (s : State) : AtControl s (beginStep s) :=
  ⟨_, _, _, _, _, _, _, _, _, _, _, rfl⟩

/-- Everything a command can do: nothing but begin the step, halt, or run `CTL` on the state as `CTL` finds it, then `ADAPT`, if asked. -/
theorem exec_command_cases {i : Instr} (hi : isCommand i = true) (h : exec i s = .next t) :
    ((i = .nop ∨ s.halted = true) ∧ t = beginStep s) ∨
    (i = .eos ∧ s.halted = false ∧ t = emit .halt { beginStep s with halted := true }) ∨
    (((∃ x, i = .sample x) ∨ ∃ b, i = .cbit b) ∧ s.halted = false ∧
      ∃ u b v m, AtControl s u ∧ control b u = .next v ∧ t = adaptIfAsked m v) := by
  cases hrun : s.halted with
  | true =>
    rw [exec_command_of_halted hi hrun] at h
    cases h
    exact .inl ⟨.inr rfl, rfl⟩
  | false =>
    cases i with
    | nop =>
      cases h
      exact .inl ⟨.inl rfl, rfl⟩
    | sample x =>
      obtain ⟨u, v, m, hu, -, -, hv, ht⟩ := exec_sample_atControl hrun h
      exact .inr (.inr ⟨.inl ⟨x, rfl⟩, rfl, u, _, v, m, hu, hv, ht⟩)
    | cbit b =>
      obtain ⟨v, hv, ht⟩ := exec_cbit_atControl hrun h
      exact .inr (.inr ⟨.inr ⟨b, rfl⟩, rfl, _, b, v, _, beginStep_atControl s, hv, ht⟩)
    | eos =>
      obtain ⟨hhalt, -⟩ | ⟨-, ht⟩ := exec_eos_eq_next.1 h
      · simp [hrun] at hhalt
      · exact .inr (.inl ⟨rfl, rfl, ht⟩)
    | _ => cases hi

/-- Settles O50: `CTL` answers the flag in each of the three, and `ADAPT` writes `thr_rel` only when the flag is set. -/
theorem adaptOnlyAtFullWindows : Obligations.AdaptOnlyAtFullWindows := by
  intro s t
  refine ⟨fun b h => control_adapt_iff h, fun b hrun h => ?cbit, fun x hrun h => ?sample⟩
  case cbit =>
    obtain ⟨v, hv, rfl⟩ := exec_cbit_atControl hrun h
    have hiff := control_adapt_iff hv
    obtain ⟨w, p, d, r, l, f, e, a, rfl⟩ := control_frame hv
    rw [adaptIfAsked_eq]
    exact ⟨hiff, fun hadapt => if_neg (Bool.eq_false_iff.1 hadapt)⟩
  case sample =>
    obtain ⟨u, v, m, ⟨_, _, _, _, _, _, _, _, _, _, _, rfl⟩, -, -, hv, rfl⟩ := exec_sample_atControl hrun h
    have hiff := control_adapt_iff hv
    obtain ⟨w, p, d, r, l, f, e, a, rfl⟩ := control_frame hv
    rw [adaptIfAsked_eq]
    exact ⟨hiff, fun hadapt => if_neg (Bool.eq_false_iff.1 hadapt)⟩

end Sys2Proof.Machine
end

section
/-! The invariant of the machine, kept by every step (10_state.md R21 to R30, R42). -/

namespace Sys2Proof.Machine

variable {s t : State}

/-! ## Each operation of a step keeps the invariant -/

/-- The invariant does not speak of `halted`, what is left to present, the events, the wires, the draw counter, the flag of the first
`RESET` and the gate. -/
theorem machineInv_frame (h : MachineInv s) {g hl : Bool} {inp : List PortInput} {ev : List Event} {w : Wires} {d : Nat} {rs : Bool} :
    MachineInv { s with gate := g, halted := hl, input := inp, events := ev, wires := w, draws := d, resetSeen := rs } where
  config := { h.config with }
  conditioning := { h.conditioning with }
  detector := { h.detector with }
  window := { h.window with }
  controller := h.controller

theorem beginStep_inv (h : MachineInv s) : MachineInv (beginStep s) :=
  machineInv_frame h

/-- Conditioning a 16-bit sample keeps the invariant and hands on a level in range. -/
theorem conditionSample_inv {x : Int} (hx : fitsSigned 16 x = true) (h : MachineInv s) :
    MachineInv (conditionSample x s) ∧ (conditionSample x s).wires.lev2 ≤ 2 ^ (s.cfg.sigW - 1) := by
  obtain ⟨-, -, hw, -⟩ := config_valid_iff.1 h.config.valid
  obtain ⟨hcond, hdet, hlev⟩ := conditionSample_spec hx hw h.conditioning h.detector
  exact ⟨{ config := { h.config with }, conditioning := hcond, detector := hdet, window := { h.window with },
           controller := h.controller }, hlev⟩

/-- `MAVG` of a level in range goes on and keeps the invariant. -/
theorem movingAverage_inv {l : Nat} (hl : l ≤ 2 ^ (s.cfg.sigW - 1)) (h : MachineInv s) :
    ∃ t, movingAverage l s = .next t ∧ MachineInv t := by
  obtain ⟨u, hu, hdet⟩ := mavgSwap_keeps hl h.detector
  refine ⟨averageOut u, movingAverage_eq_next.2 ⟨u, hu, rfl⟩, ?_⟩
  obtain ⟨-, rfl⟩ := mavgSwap_eq_next.1 hu
  exact { config := { h.config with }, conditioning := { h.conditioning with }, detector := { hdet with },
          window := { h.window with }, controller := h.controller }

theorem noiseGate_inv (l : Nat) (h : MachineInv s) : MachineInv (noiseGate l s) :=
  machineInv_frame h

/-- `CTL` goes on and keeps the invariant. -/
theorem control_inv (b : Bool) (h : MachineInv s) : ∃ t, control b s = .next t ∧ MachineInv t := by
  obtain ⟨t, ht, hwin, hctl⟩ := control_keeps (b := b) h.config.valid h.window h.controller
  refine ⟨t, ht, ?_⟩
  obtain ⟨w, p, d, r, l, f, e, a, rfl⟩ := control_frame ht
  exact { config := { h.config with }, conditioning := { h.conditioning with }, detector := { h.detector with },
          window := hwin, controller := hctl }

theorem adaptIfAsked_inv (m : Nat) (h : MachineInv s) : MachineInv (adaptIfAsked m s) := by
  unfold adaptIfAsked
  split
  · exact { config := { h.config with }, conditioning := { h.conditioning with },
            detector := adaptThreshold_keeps h.config.valid h.detector, window := { h.window with }, controller := h.controller }
  · exact h

/-! ## The commands and the step -/

/-- `SAMPLE` of a 16-bit value goes on and keeps the invariant. -/
theorem exec_sample_inv {x : Int} (hx : fitsSigned 16 x = true) (h : MachineInv s) :
    ∃ t, exec (.sample x) s = .next t ∧ MachineInv t := by
  have hbegin := beginStep_inv h
  cases hrun : s.halted with
  | true => exact ⟨_, exec_sample_eq_next.2 (.inl ⟨hrun, rfl⟩), hbegin⟩
  | false =>
    obtain ⟨hcond, hlev⟩ := conditionSample_inv hx hbegin
    obtain ⟨u, hu, huinv⟩ := movingAverage_inv (s := conditionSample x (beginStep s)) hlev hcond
    obtain ⟨v, hv, hvinv⟩ := control_inv (noiseGate u.wires.lev2 u).wires.cbit (noiseGate_inv u.wires.lev2 huinv)
    exact ⟨_, exec_sample_eq_next.2 (.inr ⟨hrun, u, v, hu, hv, rfl⟩), adaptIfAsked_inv _ hvinv⟩

/-- `CBIT` goes on and keeps the invariant. -/
theorem exec_cbit_inv (b : Bool) (h : MachineInv s) : ∃ t, exec (.cbit b) s = .next t ∧ MachineInv t := by
  have hbegin := beginStep_inv h
  cases hrun : s.halted with
  | true => exact ⟨_, exec_cbit_eq_next.2 (.inl ⟨hrun, rfl⟩), hbegin⟩
  | false =>
    obtain ⟨v, hv, hvinv⟩ := control_inv b hbegin
    exact ⟨_, exec_cbit_eq_next.2 (.inr ⟨hrun, v, hv, rfl⟩), adaptIfAsked_inv _ hvinv⟩

/-- `EOS` goes on and keeps the invariant. -/
theorem exec_eos_inv (h : MachineInv s) : ∃ t, exec .eos s = .next t ∧ MachineInv t := by
  cases hrun : s.halted with
  | true => exact ⟨_, exec_eos_eq_next.2 (.inl ⟨hrun, rfl⟩), beginStep_inv h⟩
  | false => exact ⟨_, exec_eos_eq_next.2 (.inr ⟨hrun, rfl⟩), machineInv_frame h⟩

/-- A decoded command word goes on and keeps the invariant: a decoded sample is a 16-bit value. -/
theorem exec_decodeWord_inv (w : CmdWord) (h : MachineInv s) : ∃ t, exec (decodeWord w) s = .next t ∧ MachineInv t := by
  have hwf := wellFormed_decodeWord s.cfg w
  have hcmd := isCommand_decodeWord w
  generalize decodeWord w = i at hwf hcmd ⊢
  cases i with
  | nop => exact ⟨_, rfl, beginStep_inv h⟩
  | sample x => exact exec_sample_inv hwf h
  | cbit b => exact exec_cbit_inv b h
  | eos => exact exec_eos_inv h
  | _ => cases hcmd

/-- Everything a step that goes on can do, with what was presented: nothing, `RESET`, or a command word. -/
theorem step_presented_cases (h : step s = .next t) : ∃ rest, t = { s with input := rest } ∨
    (∃ c, exec (.reset c) { s with input := rest } = .next t) ∨ ∃ w, exec (decodeWord w) { s with input := rest } = .next t := by
  rcases hin : s.input with _ | ⟨⟨rst, cw⟩, rest⟩
  · rw [step_of_nil hin] at h
    cases h
    exact ⟨s.input, .inl rfl⟩
  · rcases rst with _ | c
    · rcases cw with _ | w
      · rw [step_of_absent hin] at h
        cases h
        exact ⟨rest, .inl rfl⟩
      · rcases Bool.eq_false_or_eq_true s.resetSeen with hseen | hseen
        · exact ⟨rest, .inr (.inr ⟨w, by rwa [step_of_word hin hseen] at h⟩)⟩
        · rw [step_of_word_before_reset hin hseen] at h
          cases h
    · exact ⟨rest, .inr (.inl ⟨c, by rwa [step_of_reset hin] at h⟩)⟩

/-- Settles O45: a step does nothing, or runs `RESET`, which establishes the invariant, or a decoded command, which keeps it. -/
theorem stepKeepsTheInvariant : Obligations.StepKeepsTheInvariant := by
  intro s t hs h
  obtain ⟨rest, rfl | ⟨c, he⟩ | ⟨w, he⟩⟩ := step_presented_cases h
  · exact machineInv_frame hs
  · obtain ⟨hv, rfl⟩ := exec_reset_eq_next.1 he
    exact resetCore_inv hv _
  · obtain ⟨u, hu, huinv⟩ := exec_decodeWord_inv w (machineInv_frame hs)
    cases hu.symm.trans he
    exact huinv

/-- Settles O47: of what the port can present only an illegal `RESET` stops. -/
theorem stepNeverStops : Obligations.StepNeverStops := by
  intro s hs hseen
  rcases hin : s.input with _ | ⟨⟨rst, cw⟩, rest⟩
  · exact .inl ⟨s, step_of_nil hin⟩
  · rcases rst with _ | c
    · rcases cw with _ | w
      · exact .inl ⟨_, step_of_absent hin⟩
      · obtain ⟨t, ht, -⟩ := exec_decodeWord_inv w (machineInv_frame hs)
        exact .inl ⟨t, by rw [step_of_word hin hseen]; exact ht⟩
    · cases hv : c.valid with
      | true => exact .inl ⟨_, by rw [step_of_reset hin, exec_reset_of_valid hv]⟩
      | false =>
        exact .inr ⟨c, cw, rest, rfl, hv, by rw [step_of_reset hin, exec_reset_of_not_valid (by simp [hv])]⟩

/-! ## What `SAMPLE` and `CBIT` leave alone -/

/-- Settles O16: the step goes on by the invariant, and each of its operations writes its own fields only. -/
theorem sampleCompletes : Obligations.SampleCompletes := by
  intro s x hs hrun hlower hupper
  obtain ⟨t, ht, -⟩ := exec_sample_inv (x := x) (fitsSigned_iff.2 ⟨hlower, Int.lt_add_one_of_le hupper⟩) hs
  refine ⟨t, ht, ?_⟩
  obtain ⟨u, v, m, ⟨_, _, _, _, _, _, _, _, _, _, _, rfl⟩, hgate, hdraws, hv, rfl⟩ := exec_sample_atControl hrun ht
  have hquiet : v.wires.adapt = false → v = setAdapt false _ := fun hadapt => by
    obtain ⟨-, htrue, -⟩ | ⟨-, rfl⟩ := control_cases hv
    · simp [hadapt] at htrue
    · rfl
  obtain ⟨w, ph, d, r, l, f, e, ad, rfl⟩ := control_frame hv
  rw [adaptIfAsked_eq]
  refine ⟨rfl, rfl, hrun, rfl, rfl, hdraws, hgate.symm, fun hadapt => ?_⟩
  rw [hquiet hadapt]
  exact ⟨rfl, rfl, rfl, rfl, rfl, rfl, rfl, rfl⟩

/-- Settles O17: `CTL` goes on by the invariant and writes no conditioning or detector register, and `ADAPT` only `thr_rel`. -/
theorem cbitCompletesAndSparesTheDetector : Obligations.CbitCompletesAndSparesTheDetector := by
  intro s b hs hrun
  obtain ⟨t, ht, -⟩ := exec_cbit_inv b hs
  obtain ⟨u, hu, -⟩ := control_inv b hs
  refine ⟨⟨u, hu⟩, t, ht, ?_⟩
  obtain ⟨v, hv, rfl⟩ := exec_cbit_atControl hrun ht
  have hiff := control_adapt_iff hv
  obtain ⟨w, p, d, r, l, f, e, a, rfl⟩ := control_frame hv
  rw [adaptIfAsked_eq]
  exact ⟨rfl, rfl, rfl, rfl, rfl, rfl, rfl, rfl, rfl, rfl, rfl, hrun, rfl, rfl, rfl, hiff, rfl⟩

end Sys2Proof.Machine
end

section
/-! What the controller does with a full window, row by row, and what follows for the steps: their events, `LOCK`, the changes of phase and
the frame's layout (44_window_controller.md; 60_exceptions.md R268). -/

namespace Sys2Proof.Machine

variable {s t u v : State}

/-! ## The rows of a classification -/

/-- What a classification can leave, one row for each outcome of `ACQ`, `DATA` and `POS` (44_window_controller.md R203, R209, R213). -/
inductive Classified (s : State) : State → Prop
  | frameStart (hp : s.phase = .acquiringFrame) : Classified s { s with
      frame := [.ref], dbr := s.cfg.dbrFirst, pr := s.cfg.prInit, phase := .awaitingData, win := [], looking := false
      events := s.events ++ .sym .ref :: (if s.looking then [.lock] else []) }
  | lock (hp : s.phase = .acquiringFrame) (hl : s.looking = true) : Classified s { s with
      win := stripZeros (s.win.drop s.cfg.tplLen), looking := false, events := s.events ++ [.lock] }
  | slip (hp : s.phase = .acquiringFrame) : Classified s { s with win := stripZeros (s.win.drop 1) }
  | dataStays (y : Symbol) (hp : s.phase = .awaitingData) (hy : y = .one ∨ y = .zero) (hd : 1 < s.dbr) : Classified s { s with
      frame := s.frame ++ [y], events := s.events ++ [.sym y], dbr := s.dbr - 1, win := [] }
  | groupDone (y : Symbol) (hp : s.phase = .awaitingData) (hy : y = .one ∨ y = .zero) (hd : s.dbr = 1) (hpr : 0 < s.pr) :
      Classified s { s with
        frame := s.frame ++ [y], events := s.events ++ [.sym y], dbr := 0, phase := .awaitingPosition, win := [] }
  | frameDone (y : Symbol) (hp : s.phase = .awaitingData) (hy : y = .one ∨ y = .zero) (hd : s.dbr = 1) (hpr : s.pr = 0) :
      Classified s { s with
        frame := [], events := s.events ++ [.sym y, .time (decodeFrame s.cfg (s.frame ++ [y]))], dbr := 0
        phase := .acquiringFrame, win := [] }
  | dataLost (hp : s.phase = .awaitingData) : Classified s (raiseLoss .dataSymbol s)
  | marker (hp : s.phase = .awaitingPosition) (hpr : 0 < s.pr) : Classified s { s with
      frame := s.frame ++ [.pos], events := s.events ++ [.sym .pos], dbr := s.cfg.dbrNext, pr := s.pr - 1
      phase := .awaitingData, win := [] }
  | markerLost (hp : s.phase = .awaitingPosition) : Classified s (raiseLoss .positionMarker s)

/-- An accepted data symbol is one of three rows, by the counters. -/
theorem classified_of_acceptData {y : Symbol} (hp : s.phase = .awaitingData) (hy : y = .one ∨ y = .zero)
    (h : acceptData y s = .next t) : Classified s t := by
  obtain ⟨-, hd, rfl⟩ := acceptData_eq_next.1 h
  rcases Nat.lt_or_ge 1 s.dbr with hd1 | hd1
  · rw [afterDataSymbol_of_dbr_pos (Nat.sub_pos_of_lt hd1)]
    exact .dataStays y hp hy hd1
  · obtain hd1 : s.dbr = 1 := Nat.le_antisymm hd1 hd
    rcases Nat.eq_zero_or_pos s.pr with hpr | hpr
    · have hrow := Classified.frameDone y hp hy hd1 hpr
      simpa [afterDataSymbol_of_pr_eq_zero, frameDone_eq, windowClear, hd1, hpr] using hrow
    · have hrow := Classified.groupDone y hp hy hd1 hpr
      simpa [afterDataSymbol_of_pr_pos, windowClear, hd1, hpr] using hrow

/-- Every classification that goes on is one of the rows. -/
theorem classified_of_classify (h : classify s = .next t) : Classified s t := by
  unfold classify at h
  split at h
  case h_1 hp =>
    obtain ⟨-, rfl⟩ | ⟨-, hl, -, rfl⟩ | ⟨-, -, rfl⟩ := acquire_cases h
    · exact .frameStart hp
    · exact .lock hp hl
    · exact .slip hp
  case h_2 hp =>
    obtain ⟨y, hy, h⟩ | ⟨-, -, rfl⟩ := classifyData_cases h
    · exact classified_of_acceptData hp (hy.imp And.left And.left) h
    · exact .dataLost hp
  case h_3 hp =>
    obtain ⟨-, -, hpr, rfl⟩ | ⟨-, rfl⟩ := classifyPosition_cases h
    · exact .marker hp hpr
    · exact .markerLost hp

/-! ## The rows in a step -/

/-- The controller's fields of `t` are those of `s`. -/
structure ControllerUnchanged (s t : State) : Prop where
  cfg : t.cfg = s.cfg
  phase : t.phase = s.phase
  dbr : t.dbr = s.dbr
  pr : t.pr = s.pr
  looking : t.looking = s.looking
  frame : t.frame = s.frame

/-- `u` is `s` as a classification finds it in a step: the controller's fields as they were, the event list empty. -/
structure AtClassify (s u : State) : Prop extends ControllerUnchanged s u where
  events : u.events = []

/-- A running core's `SAMPLE` or `CBIT` step either leaves the controller alone, without an event, or is one of the rows and then
`ADAPT`. -/
theorem exec_bit_cases {b : Bool} {m : Nat} (hu : AtControl s u) (hv : control b u = .next v) (ht : t = adaptIfAsked m v) :
    (t.wires.adapt = false ∧ ControllerUnchanged s t ∧ t.events = []) ∨
    (t.wires.adapt = true ∧ ∃ w x r, AtClassify s w ∧ Classified w x ∧ t = { x with thrRel := r }) := by
  obtain ⟨_, _, _, _, _, _, _, _, _, _, _, rfl⟩ := hu
  rw [adaptIfAsked_eq] at ht
  subst ht
  obtain ⟨-, hadapt, hc⟩ | ⟨-, rfl⟩ := control_cases hv
  · refine .inr ⟨hadapt, _, v, _, ?_, classified_of_classify hc, rfl⟩
    exact ⟨⟨rfl, rfl, rfl, rfl, rfl, rfl⟩, rfl⟩
  · exact .inl ⟨rfl, ⟨rfl, rfl, rfl, rfl, rfl, rfl⟩, rfl⟩

/-- A command either leaves the controller alone, with no event but `HALT`, or is one of the rows and then `ADAPT`. -/
theorem exec_command_classifies {i : Instr} (hi : isCommand i = true) (h : exec i s = .next t) :
    (ControllerUnchanged s t ∧ (t.events = [] ∨ t.events = [.halt])) ∨
    ∃ u v r, AtClassify s u ∧ Classified u v ∧ t = { v with thrRel := r } := by
  obtain ⟨-, rfl⟩ | ⟨-, -, rfl⟩ | ⟨-, -, u, b, v, m, hu, hv, ht⟩ := exec_command_cases hi h
  · exact .inl ⟨⟨rfl, rfl, rfl, rfl, rfl, rfl⟩, .inl rfl⟩
  · exact .inl ⟨⟨rfl, rfl, rfl, rfl, rfl, rfl⟩, .inr rfl⟩
  · obtain ⟨-, hsame, hev⟩ | ⟨-, hrow⟩ := exec_bit_cases hu hv ht
    · exact .inl ⟨hsame, .inl hev⟩
    · exact .inr hrow

/-! ## The events of a step -/

/-- The event lists of the rows, by phase and lock (60_exceptions.md R268). -/
theorem Classified.event_lists (h : Classified s t) (hev : s.events = []) :
    t.events.length ≤ 2 ∧
    (s.phase = .acquiringFrame → s.looking = true → t.events = [] ∨ t.events = [.sym .ref, .lock] ∨ t.events = [.lock]) ∧
    (s.phase = .acquiringFrame → s.looking = false → t.events = [] ∨ t.events = [.sym .ref]) ∧
    (s.phase = .awaitingData → t.events = [.loss .dataSymbol] ∨ ∃ y, (y = .one ∨ y = .zero) ∧
      t.events = if s.dbr = 1 ∧ s.pr = 0 then [.sym y, .time (decodeFrame s.cfg (s.frame ++ [y]))] else [.sym y]) ∧
    (s.phase = .awaitingPosition → t.events = [.sym .pos] ∨ t.events = [.loss .positionMarker]) := by
  cases h with
  | frameStart hp => cases s.looking <;> simp [hp, hev]
  | lock hp hl => simp [hp, hev, hl]
  | slip hp => simp [hp, hev]
  | dataStays y hp hy hd => simp [hp, hev, hy, Nat.ne_of_gt hd]
  | groupDone y hp hy hd hpr => simp [hp, hev, hy, Nat.ne_of_gt hpr]
  | frameDone y hp hy hd hpr => rcases hy with rfl | rfl <;> simp [hp, hev, hd, hpr]
  | dataLost hp => simp [hp, hev]
  | marker hp hpr => simp [hp, hev]
  | markerLost hp => simp [hp, hev]

/-- Settles O48: the commands without `CTL` have fixed lists, `CTL` emits nothing below a full window, and the rows have R268's. -/
theorem eventListsOfAStep : Obligations.EventListsOfAStep := by
  rintro i s t (hi | ⟨c, rfl⟩) h
  · have hreset : ∀ c, i ≠ .reset c := by rintro c rfl; cases hi
    obtain ⟨hquiet, rfl⟩ | ⟨rfl, hrun, rfl⟩ | ⟨hbit, hrun, u, b, v, m, hu, hv, ht⟩ := exec_command_cases hi h
    · rcases hquiet with rfl | hhalt
      · simp
      · simp [hhalt, hreset]
    · simp [hrun]
    · have hnop : i ≠ .nop := by rintro rfl; simp at hbit
      have heos : i ≠ .eos := by rintro rfl; simp at hbit
      obtain ⟨hadapt, -, hev⟩ | ⟨hadapt, w, x, r, hw, hrow, rfl⟩ := exec_bit_cases hu hv ht
      · simp [hev, hadapt, hnop, heos, hreset, hrun]
      · have htable := hrow.event_lists hw.events
        rw [hw.phase, hw.looking, hw.dbr, hw.pr, hw.cfg, hw.frame] at htable
        obtain ⟨hlen, hsearch, hlocked, hdata, hpos⟩ := htable
        refine ⟨hlen, fun c hc => absurd hc (hreset c), fun _ hhalt => ?_, fun hi => absurd hi hnop, fun hi => absurd hi heos,
          fun _ _ => ⟨fun hquiet => ?_, fun _ => hsearch, fun _ => hlocked, fun _ => hdata, fun _ => hpos⟩⟩
        · simp [hrun] at hhalt
        · cases hadapt.symm.trans hquiet
  · obtain ⟨-, rfl⟩ := exec_reset_eq_next.1 h
    have hlen : (resetCore c s).events.length ≤ 2 := by
      simp only [resetCore]
      split <;> simp
    exact ⟨hlen, by rintro _ ⟨⟩; rfl, by simp [isCommand], by simp, by simp, by simp⟩

/-- `LOCK` is the fall of `looking`, which rises only with `LOSS`, and what `LOSS` leaves (44_window_controller.md section 6). -/
theorem Classified.lock_and_loss (h : Classified s t) (hev : s.events = []) :
    (.lock ∈ t.events ↔ s.looking = true ∧ t.looking = false) ∧
    (s.looking = false → t.looking = true → ∃ q, t.events = [.loss q]) ∧
    (∀ q, .loss q ∈ t.events → t.looking = true ∧ t.dbr = 0 ∧ t.frame = [] ∧ t.win = [] ∧ t.phase = .acquiringFrame ∧ t.pr = s.pr) := by
  cases h with
  | frameStart hp => cases s.looking <;> simp [hev]
  | lock hp hl => simp [hev, hl]
  | slip hp => simp [hev]
  | dataStays y hp hy hd => simp [hev]
  | groupDone y hp hy hd hpr => simp [hev]
  | frameDone y hp hy hd hpr => simp [hev]
  | dataLost hp => simp [hev]
  | marker hp hpr => simp [hev]
  | markerLost hp => simp [hev]

/-- Settles O49: outside the rows neither `looking` nor the event list moves, but for `HALT`. -/
theorem lockIsTheFallOfLooking : Obligations.LockIsTheFallOfLooking := by
  intro i s t hi h
  obtain ⟨hsame, hev | hev⟩ | ⟨u, v, r, hu, hrow, rfl⟩ := exec_command_classifies hi h
  · simp [hev, hsame.looking]
  · simp [hev, hsame.looking]
  · have hrows := hrow.lock_and_loss hu.events
    rwa [hu.looking, hu.pr] at hrows

/-! ## The changes of phase -/

/-- The rows that change the phase are those of the transition table (44_window_controller.md section 7). -/
theorem Classified.phase_change (h : Classified s t) (hev : s.events = []) (hne : t.phase ≠ s.phase) :
    t.win = [] ∧
    (s.phase = .acquiringFrame → t.phase = .awaitingData ∧ t.frame = [.ref] ∧ t.dbr = s.cfg.dbrFirst ∧ t.pr = s.cfg.prInit ∧
      t.looking = false ∧ t.events = if s.looking then [.sym .ref, .lock] else [.sym .ref]) ∧
    (s.phase = .awaitingData →
      (t.phase = .awaitingPosition ∧ s.dbr = 1 ∧ t.dbr = 0 ∧ 0 < s.pr ∧ t.pr = s.pr ∧ t.looking = s.looking ∧
        ∃ y, (y = .one ∨ y = .zero) ∧ t.frame = s.frame ++ [y] ∧ t.events = [.sym y]) ∨
      (t.phase = .acquiringFrame ∧ s.dbr = 1 ∧ t.dbr = 0 ∧ s.pr = 0 ∧ t.pr = 0 ∧ t.looking = s.looking ∧ t.frame = [] ∧
        ∃ y, (y = .one ∨ y = .zero) ∧ t.events = [.sym y, .time (decodeFrame s.cfg (s.frame ++ [y]))]) ∨
      (t.phase = .acquiringFrame ∧ t.looking = true ∧ t.dbr = 0 ∧ t.pr = s.pr ∧ t.frame = [] ∧ t.events = [.loss .dataSymbol])) ∧
    (s.phase = .awaitingPosition →
      (t.phase = .awaitingData ∧ t.dbr = s.cfg.dbrNext ∧ t.pr + 1 = s.pr ∧ t.looking = s.looking ∧ t.frame = s.frame ++ [.pos] ∧
        t.events = [.sym .pos]) ∨
      (t.phase = .acquiringFrame ∧ t.looking = true ∧ t.dbr = 0 ∧ t.pr = s.pr ∧ t.frame = [] ∧ t.events = [.loss .positionMarker])) := by
  cases h with
  | frameStart hp => cases s.looking <;> simp [hp, hev]
  | lock hp hl => exact absurd rfl hne
  | slip hp => exact absurd rfl hne
  | dataStays y hp hy hd => exact absurd rfl hne
  | groupDone y hp hy hd hpr => simp [hp, hev, hy, hd, hpr]
  | frameDone y hp hy hd hpr => rcases hy with rfl | rfl <;> simp [hp, hev, hd, hpr]
  | dataLost hp => simp [hp, hev]
  | marker hp hpr => simp [hp, hev, Nat.sub_add_cancel hpr]
  | markerLost hp => simp [hp, hev]

/-- Settles O51: only the rows of a classification change the phase. -/
theorem phaseChangesFollowTheTable : Obligations.PhaseChangesFollowTheTable := by
  intro i s t hi h hne
  obtain ⟨hsame, -⟩ | ⟨u, v, r, hu, hrow, rfl⟩ := exec_command_classifies hi h
  · exact absurd hsame.phase hne
  · have hrows := hrow.phase_change hu.events (by rwa [hu.phase])
    rwa [hu.phase, hu.looking, hu.dbr, hu.pr, hu.cfg, hu.frame] at hrows

/-! ## The layout of the frame -/

/-- In `AwaitingData` the next slot of the frame is a data slot (10_state.md R42; 44_window_controller.md R217). -/
theorem frameSlotOk_of_awaitingData (h : ControllerInv s) (hp : s.phase = .awaitingData) {y : Symbol} :
    frameSlotOk s.cfg s.frame.length y ↔ y = .one ∨ y = .zero := by
  simp only [ControllerInv, hp] at h
  obtain ⟨hdbr, hmax, hpr, -, hlen⟩ := h
  have hpos : s.frame.length ≠ 0 ∧
      ¬ (s.cfg.dbrFirst < s.frame.length ∧ (s.frame.length - (1 + s.cfg.dbrFirst)) % (1 + s.cfg.dbrNext) = 0) := by
    by_cases hfirst : s.pr = s.cfg.prInit
    · rw [if_pos hfirst] at hmax
      simp only [hfirst, Nat.sub_self, Config.frameLenAfter, Nat.zero_mul] at hlen
      omega
    · rw [if_neg hfirst] at hmax
      obtain ⟨k, hk⟩ : ∃ k, s.cfg.prInit - s.pr = k + 1 := ⟨s.cfg.prInit - s.pr - 1, by omega⟩
      rw [hk, frameLenAfter_succ, Config.frameLenAfter] at hlen
      have hoffset : s.frame.length - (1 + s.cfg.dbrFirst) = (1 + s.cfg.dbrNext - s.dbr) + k * (1 + s.cfg.dbrNext) := by omega
      rw [hoffset, Nat.add_mul_mod_self_right, Nat.mod_eq_of_lt (by omega)]
      omega
  rw [frameSlotOk, if_neg hpos.1, if_neg hpos.2]

/-- In `AwaitingPosition` the next slot of the frame is a marker's (10_state.md R42; 44_window_controller.md R217). -/
theorem frameSlotOk_of_awaitingPosition (h : ControllerInv s) (hp : s.phase = .awaitingPosition) {y : Symbol} :
    frameSlotOk s.cfg s.frame.length y ↔ y = .pos := by
  simp only [ControllerInv, hp] at h
  obtain ⟨-, -, -, -, hlen⟩ := h
  have hpos : s.frame.length ≠ 0 := by rw [hlen, Config.frameLenAfter]; omega
  have hmarker : s.cfg.dbrFirst < s.frame.length ∧
      (s.frame.length - (1 + s.cfg.dbrFirst)) % (1 + s.cfg.dbrNext) = 0 := by
    rw [hlen, Config.frameLenAfter]
    exact ⟨by omega, by rw [Nat.add_sub_cancel_left, Nat.mul_mod_left]⟩
  rw [frameSlotOk, if_neg hpos, if_pos hmarker]

/-- A symbol that fits the next slot keeps the layout. -/
theorem layout_append {c : Config} {f : List Symbol} {y : Symbol} (h : ∀ i z, f[i]? = some z → frameSlotOk c i z)
    (hy : frameSlotOk c f.length y) : ∀ i z, (f ++ [y])[i]? = some z → frameSlotOk c i z := by
  intro i z hz
  rcases Nat.lt_trichotomy i f.length with hi | rfl | hi
  · rw [List.getElem?_append_left hi] at hz
    exact h i z hz
  · simp at hz
    exact hz ▸ hy
  · rw [List.getElem?_eq_none (by simp; omega)] at hz
    cases hz

/-- The rows keep the frame's layout. -/
theorem Classified.frameLayout (h : Classified s t) (hctl : ControllerInv s) (hl : FrameLayout s) : FrameLayout t := by
  have hempty : ∀ i y, ([] : List Symbol)[i]? = some y → frameSlotOk s.cfg i y := by simp
  cases h with
  | frameStart hp => exact layout_append hempty (by simp [frameSlotOk])
  | lock hp hl' => exact hl
  | slip hp => exact hl
  | dataStays y hp hy hd => exact layout_append hl ((frameSlotOk_of_awaitingData hctl hp).2 hy)
  | groupDone y hp hy hd hpr => exact layout_append hl ((frameSlotOk_of_awaitingData hctl hp).2 hy)
  | frameDone y hp hy hd hpr => exact hempty
  | dataLost hp => exact hempty
  | marker hp hpr => exact layout_append hl ((frameSlotOk_of_awaitingPosition hctl hp).2 rfl)
  | markerLost hp => exact hempty

theorem ControllerUnchanged.frameLayout (h : ControllerUnchanged s t) (hl : FrameLayout s) : FrameLayout t := by
  unfold FrameLayout
  rwa [h.cfg, h.frame]

theorem ControllerUnchanged.controllerInv (h : ControllerUnchanged s t) (hctl : ControllerInv s) : ControllerInv t := by
  unfold ControllerInv
  rwa [h.phase, h.dbr, h.pr, h.cfg, h.looking, h.frame]

/-- Settles O52: `RESET` empties the frame, and a command leaves it alone or is one of the rows, whose symbol fits the next slot. -/
theorem frameKeepsItsLayout : Obligations.FrameKeepsItsLayout := by
  intro s t hs hl h
  obtain ⟨rest, rfl | ⟨i, ⟨c, rfl⟩ | hi, he⟩⟩ := step_cases h
  · exact hl
  · obtain ⟨-, rfl⟩ := exec_reset_eq_next.1 he
    intro i y hy
    simp [resetCore] at hy
  · obtain ⟨hsame, -⟩ | ⟨u, v, r, hu, hrow, rfl⟩ := exec_command_classifies hi he
    · exact hsame.frameLayout hl
    · exact hrow.frameLayout (hu.controllerInv hs.controller) (hu.frameLayout hl)

end Sys2Proof.Machine
end

section
/-! Which element of the state each operation may write (10_state.md R21 to R37, R40). -/

namespace Sys2Proof.Machine

variable {s t : State}

/-! ## The operations that may stop: what each of them writes -/

/-- `ACQ` writes the window, the frame, the controller's fields and the events. -/
theorem acquire_frame (h : acquire s = .next t) : ∃ w p d r l f e, t = { s with
    win := w, phase := p, dbr := d, pr := r, looking := l, frame := f, events := e } := by
  obtain ⟨-, rfl⟩ | ⟨-, -, -, rfl⟩ | ⟨-, -, rfl⟩ := acquire_cases h
  · exact ⟨_, _, _, _, _, _, _, rfl⟩
  · exact ⟨_, _, _, _, _, _, _, rfl⟩
  · exact ⟨_, _, _, _, _, _, _, rfl⟩

theorem afterDataSymbol_frame (s : State) : ∃ p f e, afterDataSymbol s = { s with phase := p, frame := f, events := e } := by
  unfold afterDataSymbol
  split_ifs
  · exact ⟨_, _, _, rfl⟩
  · exact ⟨_, _, _, rfl⟩
  · exact ⟨_, _, _, rfl⟩

/-- `DATA` writes what `ACQ` does, but `pr`. -/
theorem classifyData_frame (h : classifyData s = .next t) : ∃ w p d l f e, t = { s with
    win := w, phase := p, dbr := d, looking := l, frame := f, events := e } := by
  obtain ⟨y, -, h⟩ | ⟨-, -, rfl⟩ := classifyData_cases h
  · obtain ⟨-, -, rfl⟩ := acceptData_eq_next.1 h
    obtain ⟨p, f, e, hafter⟩ := afterDataSymbol_frame { s with
      frame := s.frame ++ [y], events := s.events ++ [.sym y], dbr := s.dbr - 1 }
    rw [hafter]
    exact ⟨_, _, _, _, _, _, rfl⟩
  · exact ⟨_, _, _, _, _, _, rfl⟩

/-- `POS` writes what `ACQ` does. -/
theorem classifyPosition_frame (h : classifyPosition s = .next t) : ∃ w p d r l f e, t = { s with
    win := w, phase := p, dbr := d, pr := r, looking := l, frame := f, events := e } := by
  obtain ⟨-, -, -, rfl⟩ | ⟨-, rfl⟩ := classifyPosition_cases h
  · exact ⟨_, _, _, _, _, _, _, rfl⟩
  · exact ⟨_, _, _, _, _, _, _, rfl⟩

/-- `SAMPLE` leaves the configuration, the ROM, `halted` and what is left to present alone. -/
theorem exec_sample_frame {x : Int} (h : exec (.sample x) s = .next t) :
    t.cfg = s.cfg ∧ t.rom = s.rom ∧ t.halted = s.halted ∧ t.input = s.input := by
  obtain ⟨-, rfl⟩ | ⟨hrun, -⟩ := exec_sample_eq_next.1 h
  · exact ⟨rfl, rfl, rfl, rfl⟩
  · obtain ⟨u, v, m, ⟨_, _, _, _, _, _, _, _, _, _, _, rfl⟩, -, -, hv, rfl⟩ := exec_sample_atControl hrun h
    obtain ⟨_, _, _, _, _, _, _, _, rfl⟩ := control_frame hv
    rw [adaptIfAsked_eq]
    exact ⟨rfl, rfl, rfl, rfl⟩

/-- `CBIT` writes what `CTL` does, and `thr_rel`. -/
theorem exec_cbit_frame {b : Bool} (h : exec (.cbit b) s = .next t) : ∃ w p d r l f e wi th, t = { s with
    win := w, phase := p, dbr := d, pr := r, looking := l, frame := f, events := e, wires := wi, thrRel := th } := by
  obtain ⟨-, rfl⟩ | ⟨-, v, hv, rfl⟩ := exec_cbit_eq_next.1 h
  · exact ⟨_, _, _, _, _, _, _, _, _, rfl⟩
  · obtain ⟨_, _, _, _, _, _, _, _, rfl⟩ := control_frame hv
    rw [adaptIfAsked_eq]
    exact ⟨_, _, _, _, _, _, _, _, _, rfl⟩

/-- `EOS` writes `halted` and the events. -/
theorem exec_eos_frame (h : exec .eos s = .next t) : ∃ hl e, t = { s with halted := hl, events := e } := by
  obtain ⟨-, rfl⟩ | ⟨-, rfl⟩ := exec_eos_eq_next.1 h
  · exact ⟨_, _, rfl⟩
  · exact ⟨_, _, rfl⟩

/-- Settles O53: what the frame of each operation does not name is unchanged, and what it names is in its mnemonic's lists. -/
theorem eachElementHasItsWriters : Obligations.EachElementHasItsWriters := by
  intro i s t h
  cases i with
  | reset c =>
    obtain ⟨-, rfl⟩ := exec_reset_eq_next.1 h
    simp [mnemonic, resetCore]
  | sample x =>
    obtain ⟨hcfg, hrom, hhalted, hinput⟩ := exec_sample_frame h
    simp [mnemonic, hcfg, hrom, hhalted, hinput]
  | cbit b =>
    obtain ⟨_, _, _, _, _, _, _, _, _, rfl⟩ := exec_cbit_frame h
    simp [mnemonic]
  | eos =>
    obtain ⟨_, _, rfl⟩ := exec_eos_frame h
    simp [mnemonic]
  | mavg v =>
    obtain ⟨_, _, _, _, rfl⟩ := movingAverage_frame h
    simp [mnemonic]
  | wpush b =>
    obtain rfl := windowPush_eq_pushed h
    simp [mnemonic]
  | fpush y =>
    obtain ⟨-, rfl⟩ := framePush_eq_next.1 h
    simp [mnemonic]
  | ctl b =>
    obtain ⟨_, _, _, _, _, _, _, _, rfl⟩ := control_frame h
    simp [mnemonic]
  | acq =>
    obtain ⟨_, _, _, _, _, _, _, rfl⟩ := acquire_frame h
    simp [mnemonic]
  | data =>
    obtain ⟨_, _, _, _, _, _, rfl⟩ := classifyData_frame h
    simp [mnemonic]
  | pos =>
    obtain ⟨_, _, _, _, _, _, _, rfl⟩ := classifyPosition_frame h
    simp [mnemonic]
  | framedone =>
    cases h
    simp [mnemonic, frameDone_eq]
  | decode f =>
    cases h
    simp [mnemonic, decodeOut]
  | _ =>
    cases h
    simp [mnemonic]

end Sys2Proof.Machine
end

section
/-! The model's own wires are no state: a step on other wires has the same outcome but for the wires (10_state.md R20; log entry 6). -/

namespace Sys2Proof.Machine

variable {s : State}

/-- `s` with other wires. -/
def withWires (w : Wires) (s : State) : State := { s with wires := w }

/-- An outcome with the state it leaves changed by `f`. -/
def mapNext (f : State → State) : Host.Outcome State Fault Refusal → Host.Outcome State Fault Refusal
  | .next s => .next (f s)
  | .fault q => .fault q
  | .refused r => .refused r

@[simp] theorem mapNext_next (f : State → State) (s : State) : mapNext f (.next s) = .next (f s) := rfl

theorem eraseWires_eq_iff {s s' : State} : eraseWires s = eraseWires s' ↔ s' = withWires s'.wires s := by
  constructor
  · intro h
    calc s' = withWires s'.wires (eraseWires s') := rfl
      _ = withWires s'.wires s := by rw [← h]; rfl
  · intro h
    rw [h]
    rfl

/-! ## The controller reads no wire -/

/-- A step of a sequence that commutes with the change of wires lets the rest of the sequence do so. -/
theorem andThen_withWires {w : Wires} {r r' : Host.Outcome State Fault Refusal} {k : State → Host.Outcome State Fault Refusal}
    (hr : r' = mapNext (withWires w) r) (hk : ∀ t, k (withWires w t) = mapNext (withWires w) (k t)) :
    andThen r' k = mapNext (withWires w) (andThen r k) := by
  rw [hr]
  cases r with
  | next t => exact hk t
  | fault q => rfl
  | refused q => rfl

theorem windowPush_withWires (b : Bool) (w : Wires) (s : State) :
    windowPush b (withWires w s) = mapNext (withWires w) (windowPush b s) := by
  unfold windowPush
  rw [apply_ite (mapNext (withWires w)), apply_ite (mapNext (withWires w))]
  rfl

theorem framePush_withWires (y : Symbol) (w : Wires) (s : State) :
    framePush y (withWires w s) = mapNext (withWires w) (framePush y s) := by
  unfold framePush
  rw [apply_ite (mapNext (withWires w))]
  rfl

theorem countDownDbr_withWires (w : Wires) (s : State) :
    countDownDbr (withWires w s) = mapNext (withWires w) (countDownDbr s) := by
  unfold countDownDbr
  rw [apply_ite (mapNext (withWires w))]
  rfl

theorem countDownPr_withWires (w : Wires) (s : State) :
    countDownPr (withWires w s) = mapNext (withWires w) (countDownPr s) := by
  unfold countDownPr
  rw [apply_ite (mapNext (withWires w))]
  rfl

theorem acquireLock_withWires (w : Wires) (s : State) : acquireLock (withWires w s) = withWires w (acquireLock s) := by
  obtain hl | hl := Bool.eq_false_or_eq_true s.looking <;> simp [acquireLock, withWires, hl, emit]

theorem afterDataSymbol_withWires (w : Wires) (s : State) :
    afterDataSymbol (withWires w s) = withWires w (afterDataSymbol s) := by
  unfold afterDataSymbol
  rw [apply_ite (withWires w), apply_ite (withWires w)]
  rfl

theorem startFrame_withWires (w : Wires) (s : State) : startFrame (withWires w s) = withWires w (startFrame s) :=
  acquireLock_withWires w (windowClear { emit (.sym .ref) s with
    dbr := s.cfg.dbrFirst, pr := s.cfg.prInit, phase := .awaitingData })

theorem acquire_withWires (w : Wires) (s : State) : acquire (withWires w s) = mapNext (withWires w) (acquire s) := by
  have hstart : andThen (framePush .ref (frameClear (withWires w s))) (fun s => .next (startFrame s)) =
      mapNext (withWires w) (andThen (framePush .ref (frameClear s)) fun s => .next (startFrame s)) :=
    andThen_withWires (framePush_withWires .ref w (frameClear s)) fun t => congrArg Host.Outcome.next (startFrame_withWires w t)
  unfold acquire
  rw [apply_ite (mapNext (withWires w)), apply_ite (mapNext (withWires w)), ← hstart]
  rfl

theorem acceptData_withWires (y : Symbol) (w : Wires) (s : State) :
    acceptData y (withWires w s) = mapNext (withWires w) (acceptData y s) := by
  refine andThen_withWires (framePush_withWires y w s) fun t => ?_
  refine andThen_withWires (countDownDbr_withWires w (emit (.sym y) t)) fun u => ?_
  exact congrArg (fun v => Host.Outcome.next (windowClear v)) (afterDataSymbol_withWires w u)

theorem classifyData_withWires (w : Wires) (s : State) :
    classifyData (withWires w s) = mapNext (withWires w) (classifyData s) := by
  unfold classifyData
  rw [apply_ite (mapNext (withWires w)), apply_ite (mapNext (withWires w)), ← acceptData_withWires, ← acceptData_withWires]
  rfl

theorem classifyPosition_withWires (w : Wires) (s : State) :
    classifyPosition (withWires w s) = mapNext (withWires w) (classifyPosition s) := by
  have hmarker : andThen (framePush .pos (withWires w s)) (fun t =>
        andThen (countDownPr { emit (.sym .pos) t with dbr := t.cfg.dbrNext }) fun u => .next (resumeData u)) =
      mapNext (withWires w) (andThen (framePush .pos s) fun t =>
        andThen (countDownPr { emit (.sym .pos) t with dbr := t.cfg.dbrNext }) fun u => .next (resumeData u)) := by
    refine andThen_withWires (framePush_withWires .pos w s) fun t => ?_
    exact andThen_withWires (countDownPr_withWires w { emit (.sym .pos) t with dbr := t.cfg.dbrNext }) fun u => rfl
  unfold classifyPosition
  rw [apply_ite (mapNext (withWires w)), ← hmarker]
  rfl

theorem classify_withWires (w : Wires) (s : State) : classify (withWires w s) = mapNext (withWires w) (classify s) := by
  show (match s.phase with
    | .acquiringFrame => acquire (withWires w s)
    | .awaitingData => classifyData (withWires w s)
    | .awaitingPosition => classifyPosition (withWires w s)) = _
  unfold classify
  cases s.phase with
  | acquiringFrame => exact acquire_withWires w s
  | awaitingData => exact classifyData_withWires w s
  | awaitingPosition => exact classifyPosition_withWires w s

/-! ## The operations of a step -/

/-- The change that `CTL` on the wires `w` makes in what it leaves: its flag alone is written. -/
def withWiresButAdapt (w : Wires) (t : State) : State := withWires { w with adapt := t.wires.adapt } t

/-- `CTL` on other wires leaves them as they are, but for the flag it answers. -/
theorem control_withWires (b : Bool) (w : Wires) (s : State) :
    control b (withWires w s) = mapNext (withWiresButAdapt w) (control b s) := by
  unfold control
  rw [windowPush_withWires]
  cases windowPush b s with
  | next u =>
    have hclassify : classify (setAdapt true (withWires w u)) = mapNext (withWiresButAdapt w) (classify (setAdapt true u)) := by
      refine (classify_withWires { w with adapt := true } (setAdapt true u)).trans ?_
      cases hc : classify (setAdapt true u) with
      | next t =>
        have hadapt : t.wires.adapt = true := by rw [classify_wires hc]; rfl
        simp [withWiresButAdapt, hadapt]
      | fault q => rfl
      | refused q => rfl
    simp only [mapNext_next, andThen_next]
    rw [apply_ite (mapNext (withWiresButAdapt w)), ← hclassify]
    rfl
  | fault q => rfl
  | refused q => rfl

/-- `ADAPT`, asked for by the same flag with the same average, does the same on other wires. -/
theorem eraseWires_adaptIfAsked {t : State} {w : Wires} (m : Nat) (h : w.adapt = t.wires.adapt) :
    eraseWires (adaptIfAsked m (withWires w t)) = eraseWires (adaptIfAsked m t) := by
  rw [adaptIfAsked_eq, adaptIfAsked_eq]
  simp only [withWires, h]
  rfl

/-- `CTL` and then `ADAPT` of an average do the same on other wires. -/
theorem eraseOutcome_control_adapt (b : Bool) (w : Wires) (s : State) (m m' : State → Nat)
    (hm : ∀ t, control b s = .next t → m' (withWiresButAdapt w t) = m t) :
    eraseOutcome (andThen (control b (withWires w s)) fun t => .next (adaptIfAsked (m' t) t)) =
      eraseOutcome (andThen (control b s) fun t => .next (adaptIfAsked (m t) t)) := by
  rw [control_withWires]
  cases hc : control b s with
  | next t =>
    simp only [mapNext_next, andThen_next, hm t hc, eraseOutcome]
    exact congrArg Host.Outcome.next (eraseWires_adaptIfAsked (m t) rfl)
  | fault q => rfl
  | refused q => rfl

/-- Conditioning writes the wires it reads. -/
theorem conditionSample_withWires (x : Int) (w : Wires) (s : State) : ∃ w', w'.lev2 = (conditionSample x s).wires.lev2 ∧
    conditionSample x (withWires w s) = withWires w' (conditionSample x s) :=
  ⟨(conditionSample x (withWires w s)).wires, rfl, rfl⟩

/-- `MAVG` reads no wire and writes the wire of its average. -/
theorem movingAverage_withWires (l : Nat) (w : Wires) (s : State) :
    movingAverage l (withWires w s) = mapNext (fun u => withWires { w with mavg := u.wires.mavg } u) (movingAverage l s) := by
  obtain hpos | hpos := Nat.lt_or_ge s.mpos s.cfg.mavgLen
  · rw [show movingAverage l s = _ from exec_mavg_of_lt hpos l,
      show movingAverage l (withWires w s) = _ from exec_mavg_of_lt (s := withWires w s) hpos l]
    rfl
  · rw [show movingAverage l s = _ from exec_mavg_of_le hpos l,
      show movingAverage l (withWires w s) = _ from exec_mavg_of_le (s := withWires w s) hpos l]
    rfl

/-- What follows `MAVG` in a `SAMPLE` step does the same on wires with the same level and average. -/
theorem eraseOutcome_gate_control_adapt {w : Wires} {u : State} (hlev : w.lev2 = u.wires.lev2) (hmavg : w.mavg = u.wires.mavg) :
    eraseOutcome (andThen (control (noiseGate w.lev2 (withWires w u)).wires.cbit (noiseGate w.lev2 (withWires w u)))
        fun t => .next (adaptIfAsked t.wires.mavg t)) =
      eraseOutcome (andThen (control (noiseGate u.wires.lev2 u).wires.cbit (noiseGate u.wires.lev2 u))
        fun t => .next (adaptIfAsked t.wires.mavg t)) := by
  rw [hlev]
  refine eraseOutcome_control_adapt _ { w with cbit := _ } (noiseGate u.wires.lev2 u) (fun t => t.wires.mavg)
    (fun t => t.wires.mavg) fun t ht => ?_
  obtain ⟨_, _, _, _, _, _, _, _, rfl⟩ := control_frame ht
  exact hmavg

/-- A `SAMPLE` step writes every wire it reads before it reads it. -/
theorem exec_sample_withWires (hrun : s.halted = false) (x : Int) (w : Wires) :
    eraseOutcome (exec (.sample x) (withWires w s)) = eraseOutcome (exec (.sample x) s) := by
  obtain ⟨w', hlev, hcond⟩ := conditionSample_withWires x w (beginStep s)
  have hbegin : beginStep (withWires w s) = withWires w (beginStep s) := rfl
  rw [exec_sample_of_running hrun, exec_sample_of_running (s := withWires w s) hrun, hbegin, hcond]
  show eraseOutcome (andThen (movingAverage w'.lev2 (withWires w' _)) _) = eraseOutcome (andThen (movingAverage _ _) _)
  rw [← hlev, movingAverage_withWires]
  cases hm : movingAverage w'.lev2 (conditionSample x (beginStep s)) with
  | next u =>
    have hu : u.wires.lev2 = (conditionSample x (beginStep s)).wires.lev2 := by
      obtain ⟨_, _, _, _, rfl⟩ := movingAverage_frame hm
      rfl
    exact eraseOutcome_gate_control_adapt (w := { w' with mavg := u.wires.mavg }) (hlev.trans hu.symm) rfl
  | fault q => rfl
  | refused q => rfl

theorem exec_cbit_withWires (hrun : s.halted = false) (b : Bool) (w : Wires) :
    eraseOutcome (exec (.cbit b) (withWires w s)) = eraseOutcome (exec (.cbit b) s) := by
  rw [exec_cbit_of_running hrun, exec_cbit_of_running (s := withWires w s) hrun]
  exact eraseOutcome_control_adapt b w (beginStep s) ringAverage ringAverage fun _ _ => rfl

theorem exec_eos_withWires (hrun : s.halted = false) (w : Wires) :
    eraseOutcome (exec .eos (withWires w s)) = eraseOutcome (exec .eos s) := by
  rw [(eosHaltsOnce s).1 hrun, (eosHaltsOnce (withWires w s)).1 hrun]
  rfl

/-- `RESET` and every command do the same on other wires. -/
theorem exec_withWires {i : Instr} (hi : (∃ c, i = .reset c) ∨ isCommand i = true) (w : Wires) (s : State) :
    eraseOutcome (exec i (withWires w s)) = eraseOutcome (exec i s) := by
  obtain ⟨c, rfl⟩ | hi := hi
  · by_cases hv : c.valid = true
    · rw [exec_reset_of_valid hv, exec_reset_of_valid hv]
      rfl
    · rw [exec_reset_of_not_valid hv, exec_reset_of_not_valid hv]
  · obtain hhalt | hrun := Bool.eq_false_or_eq_true s.halted
    · rw [exec_command_of_halted hi hhalt, exec_command_of_halted (s := withWires w s) hi hhalt]
      rfl
    · cases i with
      | nop => rfl
      | sample x => exact exec_sample_withWires hrun x w
      | cbit b => exact exec_cbit_withWires hrun b w
      | eos => exact exec_eos_withWires hrun w
      | _ => cases hi

/-- Settles O54: what the port presents is no wire, and what is run of it does the same on other wires. -/
theorem wiresAreNoState : Obligations.WiresAreNoState := by
  intro s s' h
  rw [eraseWires_eq_iff.1 h]
  generalize s'.wires = w
  rcases hin : s.input with _ | ⟨⟨_ | c, cw⟩, rest⟩
  · rw [step_of_nil hin, step_of_nil (s := withWires w s) hin]
    rfl
  · cases cw with
    | none =>
      rw [step_of_absent hin, step_of_absent (s := withWires w s) hin]
      rfl
    | some cw =>
      obtain hseen | hseen := Bool.eq_false_or_eq_true s.resetSeen
      · rw [step_of_word hin hseen, step_of_word (s := withWires w s) hin hseen]
        exact (exec_withWires (.inr (isCommand_decodeWord cw)) w { s with input := rest }).symm
      · rw [step_of_word_before_reset hin hseen, step_of_word_before_reset (s := withWires w s) hin hseen]
  · rw [step_of_reset hin, step_of_reset (s := withWires w s) hin]
    exact (exec_withWires (.inl ⟨c, rfl⟩) w { s with input := rest }).symm

end Sys2Proof.Machine
end

section
/-! Runs of `CBIT` steps: bits that only fill the window, and the bit that fills it (44_window_controller.md section 1;
70_reset_and_hazards.md section 3). -/

namespace Sys2Proof.Machine

variable {s t : State} {b : Bool} {bs : List Bool} {rest : List PortInput}

/-! ## Runs -/

/-- A run is its first step and then the rest of the run. -/
theorem run_succ (n : Nat) (s : State) :
    Host.Core.run core (n + 1) s = andThen (step s) (Host.Core.run core n) := by
  refine (Host.Core.run.eq_2 core s n).trans ?_
  show _ = andThen (core.step s) (Host.Core.run core n)
  cases core.step s <;> rfl

theorem run_succ_of_step (h : step s = .next t) (n : Nat) : Host.Core.run core (n + 1) s = Host.Core.run core n t := by
  rw [run_succ, h]
  rfl

theorem run_one (s : State) : Host.Core.run core 1 s = step s := by
  rw [run_succ]
  cases step s <;> rfl

/-- A run goes on where an earlier part of it ended. -/
theorem run_add {m : Nat} (h : Host.Core.run core m s = .next t) (n : Nat) :
    Host.Core.run core (m + n) s = Host.Core.run core n t := by
  induction m generalizing s with
  | zero =>
    cases h
    rw [Nat.zero_add]
  | succ m ih =>
    obtain ⟨u, hu, h⟩ := andThen_eq_next.1 ((run_succ m s).symm.trans h)
    rw [Nat.succ_add, run_succ_of_step hu, ih h]

/-- The invariant holds along a run (10_state.md sections 2 to 6). -/
theorem run_keeps_inv {n : Nat} (hs : MachineInv s) (h : Host.Core.run core n s = .next t) : MachineInv t := by
  induction n generalizing s with
  | zero =>
    cases h
    exact hs
  | succ n ih =>
    obtain ⟨u, hu, h⟩ := andThen_eq_next.1 ((run_succ n s).symm.trans h)
    exact ih (stepKeepsTheInvariant s u hs hu) h

/-! ## One bit -/

/-- A presented bit is run as `CBIT` (30_encoding.md R101). -/
theorem step_of_bit (hin : s.input = bitInput b :: rest) (hseen : s.resetSeen = true) :
    step s = exec (.cbit b) { s with input := rest } := by
  have hbit : decodeWord (if b then 0x20001#18 else 0x20000#18) = .cbit b := by cases b <;> decide
  rw [step_of_word hin hseen, hbit]

/-- `CBIT` of a bit that does not fill the window pushes it (44_window_controller.md R201). -/
theorem exec_cbit_filling (hrun : s.halted = false) (hlen : s.win.length < s.cfg.tplLen)
    (hfill : (pushed b s.win).length ≠ s.cfg.tplLen) :
    exec (.cbit b) s = .next { s with win := pushed b s.win, events := [], wires := { s.wires with adapt := false } } := by
  rw [exec_cbit_of_running hrun, ctlPushesThenClassifies b (beginStep s) hlen]
  exact congrArg (andThen · _) (if_neg hfill)

/-- `CBIT` of the bit that fills the window runs the phase's operation and then `ADAPT` (44_window_controller.md R201). -/
theorem exec_cbit_full (hrun : s.halted = false) (hlen : s.win.length < s.cfg.tplLen)
    (hfull : (pushed b s.win).length = s.cfg.tplLen) :
    exec (.cbit b) s =
      andThen (exec (phaseOp s.phase) { s with win := pushed b s.win, events := [], wires := { s.wires with adapt := true } })
        fun t => exec (.adapt (ringAverage t)) t := by
  rw [exec_cbit_of_running hrun, ctlPushesThenClassifies b (beginStep s) hlen]
  refine (congrArg (andThen · _) (if_pos hfull)).trans ?_
  cases h : exec (phaseOp s.phase) { s with win := pushed b s.win, events := [], wires := { s.wires with adapt := true } } with
  | next t =>
    have hclassify : classify { s with win := pushed b s.win, events := [], wires := { s.wires with adapt := true } } = .next t := by
      rwa [← exec_phaseOp]
    have hadapt : t.wires.adapt = true := by rw [classify_wires hclassify]
    refine (congrArg (andThen · _) h).trans (congrArg Host.Outcome.next ?_)
    exact if_pos hadapt
  | fault r => exact congrArg (andThen · _) h
  | refused r => exact congrArg (andThen · _) h

/-! ## Bits that only fill the window -/

/-- The window after a sequence of pushes (20_memory.md R63). -/
def pushAll (bs : List Bool) (w : List Bool) : List Bool := bs.foldl (fun w b => pushed b w) w

theorem length_le_pushed (b : Bool) (w : List Bool) : w.length ≤ (pushed b w).length := by
  unfold pushed
  split
  · next h => simp [h.1]
  · simp

theorem length_le_pushAll (bs w : List Bool) : w.length ≤ (pushAll bs w).length := by
  induction bs generalizing w with
  | nil => exact le_refl _
  | cons b bs ih => exact (length_le_pushed b w).trans (ih (pushed b w))

/-- No bit is discarded where the window it lands in begins with a 1. -/
theorem pushAll_eq_append {w : List Bool} (h : windowCanonical (w ++ bs)) : pushAll bs w = w ++ bs := by
  induction bs generalizing w with
  | nil => simp [pushAll]
  | cons b bs ih =>
    have hpush : pushed b w = w ++ [b] := by
      refine if_neg fun hdrop => ?_
      rw [hdrop.1, hdrop.2, List.nil_append] at h
      simp at h
    calc pushAll (b :: bs) w = pushAll bs (w ++ [b]) := by rw [← hpush]; rfl
      _ = w ++ [b] ++ bs := ih (by rwa [List.append_assoc])
      _ = w ++ b :: bs := by rw [List.append_assoc]; rfl

/-- Zeros onto the empty window are discarded. -/
theorem pushAll_zeros (n : Nat) : pushAll (List.replicate n false) [] = [] := by
  induction n with
  | zero => rfl
  | succ n ih => rw [List.replicate_succ]; exact ih

theorem windowCanonical_take {w : List Bool} (h : windowCanonical w) (k : Nat) : windowCanonical (w.take k) := by
  cases w with
  | nil => simp
  | cons b w => cases k with
    | zero => simp
    | succ k => simpa using h

/-- `s` after `CBIT` steps that classified nothing: the window `w`, and `rest` left to present. -/
def filled (s : State) (w : List Bool) (rest : List PortInput) : State :=
  { s with win := w, input := rest, events := [], wires := { s.wires with adapt := false } }

/-- Bits that leave the window short of full only push. -/
theorem run_filling (hrun : s.halted = false) (hseen : s.resetSeen = true) (hne : bs ≠ [])
    (hin : s.input = bs.map bitInput ++ rest) (hlen : (pushAll bs s.win).length < s.cfg.tplLen) :
    Host.Core.run core bs.length s = .next (filled s (pushAll bs s.win) rest) := by
  induction bs generalizing s with
  | nil => exact absurd rfl hne
  | cons b bs ih =>
    have hpush : (pushed b s.win).length < s.cfg.tplLen := (length_le_pushAll bs _).trans_lt hlen
    have hstep : step s = .next (filled s (pushed b s.win) (bs.map bitInput ++ rest)) := by
      rw [step_of_bit hin hseen]
      exact exec_cbit_filling (s := { s with input := _ }) hrun ((length_le_pushed b _).trans_lt hpush) hpush.ne
    rw [List.length_cons, run_succ_of_step hstep]
    cases bs with
    | nil => rfl
    | cons b' bs => exact ih (s := filled s _ _) hrun hseen (by simp) rfl hlen

/-- Settles O55: every pushed 0 is discarded. -/
theorem silenceIsIgnoredForEver : Obligations.SilenceIsIgnoredForEver := by
  intro n s hrun hseen hwin hlen hin
  have hzeros : pushAll (List.replicate (n + 1) false) s.win = [] := by rw [hwin, pushAll_zeros]
  have hfill := run_filling (bs := List.replicate (n + 1) false) (rest := []) hrun hseen (by simp) (by simp [hin]) (by rwa [hzeros])
  rw [List.length_replicate, hzeros] at hfill
  refine ⟨_, hfill, ?_⟩
  simp only [filled, eraseWires, hwin]

/-! ## A full window -/

/-- `s` as a classification in a `CBIT` step finds it: the full window `w`, and `rest` left to present. -/
def atFullWindow (s : State) (w : List Bool) (rest : List PortInput) : State :=
  { s with win := w, input := rest, events := [], wires := { s.wires with adapt := true } }

/-- The step of the bit that fills the window is the phase's operation on it and then `ADAPT`. -/
theorem step_of_filling_bit (hrun : s.halted = false) (hseen : s.resetSeen = true) (hin : s.input = bitInput b :: rest)
    (hlen : s.win.length < s.cfg.tplLen) (hfull : (pushed b s.win).length = s.cfg.tplLen) :
    step s = andThen (exec (phaseOp s.phase) (atFullWindow s (pushed b s.win) rest)) fun t => exec (.adapt (ringAverage t)) t := by
  rw [step_of_bit hin hseen]
  exact exec_cbit_full (s := { s with input := rest }) hrun hlen hfull

section FullWindow

variable {w : List Bool} (hrun : s.halted = false) (hseen : s.resetSeen = true) (hwin : s.win = [])
  (hlen : w.length = s.cfg.tplLen) (hhead : w.head? = some true) (hin : s.input = w.map bitInput ++ rest)
include hrun hseen hwin hlen hhead hin

/-- All bits of a window but the last only fill it. -/
theorem run_window_prefix {k : Nat} (hpos : 0 < k) (hk : k < s.cfg.tplLen) :
    Host.Core.run core k s = .next (filled s (w.take k) ((w.drop k).map bitInput ++ rest)) := by
  have htake : (w.take k).length = k := by rw [List.length_take, hlen, Nat.min_eq_left hk.le]
  have hcanon : windowCanonical ([] ++ w.take k) := windowCanonical_take (by simp [windowCanonical, hhead]) k
  have hpush : pushAll (w.take k) s.win = w.take k := by rw [hwin, pushAll_eq_append hcanon, List.nil_append]
  have hsplit : s.input = (w.take k).map bitInput ++ ((w.drop k).map bitInput ++ rest) := by
    rw [hin, ← List.append_assoc, ← List.map_append, List.take_append_drop]
  have hrunk := run_filling hrun hseen (List.ne_nil_of_length_pos (by omega)) hsplit (by rw [hpush]; omega)
  rwa [htake, hpush] at hrunk

/-- The bits of a window are the phase's operation on it and then `ADAPT`. -/
theorem run_window (hv : s.cfg.valid = true) : Host.Core.run core s.cfg.tplLen s =
    andThen (exec (phaseOp s.phase) (atFullWindow s w rest)) fun t => exec (.adapt (ringAverage t)) t := by
  have hlong := tplLen_ge hv
  obtain rfl | ⟨v, b, rfl⟩ := List.eq_nil_or_concat' w
  · cases hhead
  have hvlen : v.length + 1 = s.cfg.tplLen := by rw [← hlen, List.length_append, List.length_singleton]
  have hpush : pushed b v = v ++ [b] := if_neg fun hdrop => by simp [hdrop.1] at hvlen; omega
  have hprefix := run_window_prefix hrun hseen hwin hlen hhead hin (k := v.length) (by omega) (by omega)
  rw [List.take_left, List.drop_left] at hprefix
  have hlast := step_of_filling_bit (s := filled s v (bitInput b :: rest)) hrun hseen rfl
    (by show v.length < s.cfg.tplLen; omega) (by show (pushed b v).length = s.cfg.tplLen; rw [hpush, hlen])
  rw [← hvlen, run_add hprefix, run_one, ← hpush]
  exact hlast

end FullWindow

/-- Settles O57: the operation's outcome decides what the run of the whole window is. -/
theorem aFullWindowIsClassifiedOnce : Obligations.AFullWindowIsClassifiedOnce := by
  intro s w rest hv hrun hseen hwin hlen hhead hin
  refine ⟨fun k hpos hk => ⟨_, run_window_prefix hrun hseen hwin hlen hhead hin hpos hk, rfl⟩, ?_⟩
  rw [run_window hrun hseen hwin hlen hhead hin hv]
  show (match exec (phaseOp s.phase) (atFullWindow s w rest) with | .next t => _ | .fault f => _ | .refused r => _)
  cases exec (phaseOp s.phase) (atFullWindow s w rest) <;> rfl

end Sys2Proof.Machine
end

section
/-! The slip search (44_window_controller.md section 2): a stream of ones never locks, and a locked core realigns behind a data symbol. -/

namespace Sys2Proof.Machine

variable {s : State} {b : Bool} {rest : List PortInput}

/-! ## One slip -/

/-- `s` after `CBIT` steps of the slip search: the window `w`, and `rest` left to present; `thr_rel` is adapted after each full window. -/
def slipped (s : State) (w : List Bool) (rest : List PortInput) (thr : Nat) (wi : Wires) : State :=
  { s with win := w, input := rest, events := [], thrRel := thr, wires := wi }

/-- A bit that fills the window with no frame start, nor with a symbol to lock on, slips by one (44_window_controller.md R206). -/
theorem step_slips (hrom : s.rom = templateRom s.cfg) (hrun : s.halted = false) (hseen : s.resetSeen = true)
    (hp : s.phase = .acquiringFrame) (hin : s.input = bitInput b :: rest) (hlen : s.win.length + 1 = s.cfg.tplLen) (hne : s.win ≠ [])
    (href : matchBits s.cfg (s.win ++ [b]) (templateBits s.cfg .ref) = false)
    (hsym : s.looking = true → matchBits s.cfg (s.win ++ [b]) (templateBits s.cfg .one) = false ∧
      matchBits s.cfg (s.win ++ [b]) (templateBits s.cfg .zero) = false) :
    ∃ thr wi, step s = .next (slipped s (stripZeros ((s.win ++ [b]).drop 1)) rest thr wi) := by
  have hpush : pushed b s.win = s.win ++ [b] := if_neg fun hdrop => hne hdrop.1
  have hmatch (t : Template) := windowMatches_eq_matchBits (s := atFullWindow s (s.win ++ [b]) rest) (t := t) hrom
  have hslip := acquire_slip ((hmatch .ref).trans href)
    fun hl => ⟨(hmatch .one).trans (hsym hl).1, (hmatch .zero).trans (hsym hl).2⟩
  have hop : exec (phaseOp s.phase) (atFullWindow s (s.win ++ [b]) rest) = acquire (atFullWindow s (s.win ++ [b]) rest) := by
    rw [hp]
    rfl
  have hstep := step_of_filling_bit hrun hseen hin (by omega) (by rw [hpush, List.length_append, List.length_singleton, hlen])
  rw [hpush, hop, hslip] at hstep
  exact ⟨_, _, hstep⟩

/-! ## All ones -/

/-- A run of zeros where the other sequence has ones counts in full. -/
theorem le_mismatches {a b : List Bool} {p m : Nat} (hlen : p + m ≤ min a.length b.length)
    (ha : ∀ j, p ≤ j → j < p + m → a[j]? = some false) (hb : ∀ j, p ≤ j → j < p + m → b[j]? = some true) : m ≤ mismatches a b := by
  rw [mismatches_eq_countP]
  have hsub : (List.range' p m).Subperm (List.range (min a.length b.length)) :=
    List.subperm_of_subset List.nodup_range' fun j hj => by
      rw [List.mem_range'_1] at hj
      exact List.mem_range.2 (by omega)
  refine le_trans (le_of_eq ?_) (hsub.countP_le _)
  rw [List.countP_eq_length.2, List.length_range']
  intro j hj
  rw [List.mem_range'_1] at hj
  simp [ha j hj.1 hj.2, hb j hj.1 hj.2]

section Source

variable {c : Config} (hv : c.valid = true) (href : ReferenceTemplates c) {w : List Bool} {t : Template} {m : Nat}
include hv href

/-- More than 12 blocks of differing bits are beyond the source's tolerance. -/
theorem not_match_of_far (hw : w.length = c.tplLen) (hm : 13 * c.spb ≤ m) (hfar : m ≤ mismatches w (templateBits c t)) :
    matchBits c w (templateBits c t) = false := by
  have hpos := spb_pos hv
  rw [matchBits_eq, templateBits_length, hw, Nat.min_self, href.matchBound_tplLen, decide_eq_false_iff_not]
  omega

/-- A window of ones is 23 or more blocks away from every template. -/
theorem ones_not_match (ht : c.act t ≤ 77) : matchBits c (List.replicate c.tplLen true) (templateBits c t) = false := by
  have hlen : c.tplLen = 100 * c.spb := rfl
  have hact := Nat.mul_le_mul_right c.spb ht
  refine not_match_of_far (m := 23 * c.spb) hv href List.length_replicate (by omega) ?_
  rw [mismatches_comm]
  refine le_mismatches (p := 77 * c.spb) ?_ (fun j hj hj' => ?_) (fun j hj hj' => ?_)
  · rw [templateBits_length, List.length_replicate]
    omega
  · rw [templateBits_getElem? c t (by omega), decide_eq_false (by omega)]
  · rw [List.getElem?_replicate, if_pos (by omega)]

end Source

/-- A run of ones loses its first bit to a slip. -/
theorem slip_ones (n : Nat) : stripZeros ((List.replicate (n + 1) true).drop 1) = List.replicate n true := by
  rw [List.drop_replicate, Nat.add_sub_cancel]
  refine stripZeros_of_canonical ?_
  cases n <;> simp [List.replicate_succ]

/-- Settles O56: each 1 completes a window of ones, which slips and is a window of ones one bit short again. -/
theorem allOnesNeverLocks : Obligations.AllOnesNeverLocks := by
  intro n
  induction n with
  | zero =>
    intro s hv href hrom hrun hseen hp hev hwin hin
    exact ⟨s, rfl, hp, rfl, hev, rfl, rfl, rfl, rfl⟩
  | succ n ih =>
    intro s hv href hrom hrun hseen hp hev hwin hin
    have hlong := tplLen_ge hv
    have hfull : s.win ++ [true] = List.replicate s.cfg.tplLen true := by
      rw [hwin, ← List.replicate_succ', Nat.sub_add_cancel (by omega)]
    have hmatch (t : Template) (ht : s.cfg.act t ≤ 77) : matchBits s.cfg (s.win ++ [true]) (templateBits s.cfg t) = false := by
      rw [hfull]
      exact ones_not_match hv href ht
    obtain ⟨thr, wi, hstep⟩ := step_slips hrom hrun hseen hp hin (by rw [hwin, List.length_replicate]; omega)
      (by rw [hwin]; simp; omega) (hmatch .ref (href.act_ref).le)
      fun _ => ⟨hmatch .one (by rw [href.act_one]; decide), hmatch .zero (by rw [href.act_zero]; decide)⟩
    have hkeep : stripZeros ((s.win ++ [true]).drop 1) = s.win := by
      rw [hwin, ← List.replicate_succ', slip_ones]
    rw [hkeep] at hstep
    obtain ⟨t, ht, hrest⟩ := ih (slipped s s.win (List.replicate n (bitInput true)) thr wi) hv href hrom hrun hseen hp rfl hwin rfl
    exact ⟨t, (run_succ_of_step hstep n).trans ht, hrest⟩

/-! ## Realignment behind a data symbol -/

/-- The bits of a data symbol and those that follow it. -/
def symbolThen (c : Config) (n : Template) (u : List Bool) : List Bool := templateBits c n ++ u

/-- The window of the `i`-th step of the slip search before its bit comes: what is left of the bits so far, zeros stripped. -/
def slipWindow (c : Config) (x : List Bool) (i : Nat) : List Bool := (x.drop i).take (c.tplLen - 1)

section Source

variable {c : Config} (hv : c.valid = true) (href : ReferenceTemplates c) {n : Template} (hn : n = .one ∨ n = .zero) {u : List Bool}
include hv href hn

/-- A data symbol is 17 or 47 blocks of ones, so 53 or more blocks of zeros. -/
theorem act_data_range : 0 < c.act n * c.spb ∧ c.act n * c.spb + 53 * c.spb ≤ c.tplLen := by
  have hpos := spb_pos hv
  have hlen : c.tplLen = 100 * c.spb := rfl
  rcases hn with rfl | rfl
  · rw [href.act_one]; omega
  · rw [href.act_zero]; omega

/-- A full window that begins within the ones of a data symbol is no frame start: 30 blocks of zeros stand where REF has ones. -/
theorem slipping_not_ref {i : Nat} (hi : i ≤ c.act n * c.spb) (hiu : i ≤ u.length) :
    matchBits c (((symbolThen c n u).drop i).take c.tplLen) (templateBits c .ref) = false := by
  have hpos := spb_pos hv
  have hlen : c.tplLen = 100 * c.spb := rfl
  have hact : c.act n * c.spb ≤ 47 * c.spb := by
    refine Nat.mul_le_mul_right _ ?_
    rcases hn with rfl | rfl
    · rw [href.act_one]
    · rw [href.act_zero]; decide
  have hw : (((symbolThen c n u).drop i).take c.tplLen).length = c.tplLen := by
    rw [List.length_take, List.length_drop, symbolThen, List.length_append, templateBits_length]
    omega
  refine not_match_of_far (m := 30 * c.spb) hv href hw (by omega) ?_
  refine le_mismatches (p := c.act n * c.spb - i) ?_ (fun j hj hj' => ?_) (fun j hj hj' => ?_)
  · rw [templateBits_length, hw]
    omega
  · rw [List.getElem?_take_of_lt (by omega), List.getElem?_drop, symbolThen, List.getElem?_append_left (by rw [templateBits_length]; omega),
      templateBits_getElem? c n (by omega), decide_eq_false (by omega)]
  · rw [templateBits_getElem? c .ref (by omega), href.act_ref, decide_eq_true (by omega)]

end Source

/-! ### The windows of the slip search -/

section Windows

variable {c : Config} {n : Template} {u : List Bool} {i : Nat} (ha : c.act n * c.spb ≤ c.tplLen)
include ha

/-- A data symbol is its ones, its zeros and what follows it. -/
theorem symbolThen_eq : symbolThen c n u =
    List.replicate (c.act n * c.spb) true ++ (List.replicate (c.tplLen - c.act n * c.spb) false ++ u) := by
  rw [symbolThen, templateBits, Nat.min_eq_left ha, List.append_assoc]

/-- What is left of the bits after `i` of the symbol's ones. -/
theorem symbolThen_drop (hi : i ≤ c.act n * c.spb) : (symbolThen c n u).drop i =
    List.replicate (c.act n * c.spb - i) true ++ (List.replicate (c.tplLen - c.act n * c.spb) false ++ u) := by
  rw [symbolThen_eq ha, List.drop_append_of_le_length (by rwa [List.length_replicate]), List.drop_replicate]

/-- Within the symbol's ones nothing is stripped. -/
theorem stripZeros_slipWindow (hi : i < c.act n * c.spb) :
    stripZeros (slipWindow c (symbolThen c n u) i) = slipWindow c (symbolThen c n u) i := by
  refine stripZeros_of_canonical ?_
  obtain ⟨k, hk⟩ : ∃ k, c.act n * c.spb - i = k + 1 := ⟨_, (Nat.succ_pred_eq_of_pos (Nat.sub_pos_of_lt hi)).symm⟩
  rw [slipWindow, symbolThen_drop ha hi.le, hk, List.replicate_succ]
  cases c.tplLen - 1 <;> simp

/-- Past the symbol's ones the symbol's zeros are stripped, and what followed it is left. -/
theorem stripZeros_slipWindow_act (hpos : 0 < c.act n * c.spb) (hu : windowCanonical u) :
    stripZeros (slipWindow c (symbolThen c n u) (c.act n * c.spb)) = u.take (c.act n * c.spb - 1) := by
  have hcanon := windowCanonical_take hu (c.act n * c.spb - 1)
  have htake : c.tplLen - 1 - (c.tplLen - c.act n * c.spb) = c.act n * c.spb - 1 := by omega
  rw [slipWindow, symbolThen_drop ha le_rfl, Nat.sub_self, List.replicate_zero, List.nil_append, List.take_append,
    List.take_of_length_le (by rw [List.length_replicate]; omega), List.length_replicate, htake, stripZeros_zeros,
    stripZeros_of_canonical hcanon]

/-- The last bit of a data symbol is a zero. -/
theorem symbolThen_drop_tplLen_pred (hlt : c.act n * c.spb < c.tplLen) : (symbolThen c n u).drop (c.tplLen - 1) = false :: u := by
  have hone : c.tplLen - c.act n * c.spb - (c.tplLen - 1 - c.act n * c.spb) = 1 := by omega
  rw [symbolThen_eq ha, List.drop_append, List.drop_of_length_le (by rw [List.length_replicate]; omega), List.length_replicate,
    List.nil_append, List.drop_append_of_le_length (by rw [List.length_replicate]; omega), List.drop_replicate, hone]
  rfl

/-- The window when all of `u` has come before the symbol's ones have gone. -/
theorem slipWindow_end (hlt : 1 + u.length ≤ c.act n * c.spb) : slipWindow c (symbolThen c n u) (1 + u.length) =
    List.replicate (c.act n * c.spb - (1 + u.length)) true ++ List.replicate (c.tplLen - c.act n * c.spb) false ++ u := by
  rw [slipWindow, symbolThen_drop ha hlt, List.append_assoc, List.take_of_length_le]
  simp only [List.length_append, List.length_replicate]
  omega

end Windows

/-- The bit that comes next fills the window. -/
theorem slipWindow_append {c : Config} {x : List Bool} {i : Nat} (hpos : 0 < c.tplLen) (hi : c.tplLen - 1 + i < x.length) :
    slipWindow c x i ++ [x[c.tplLen - 1 + i]] = (x.drop i).take c.tplLen := by
  have hlt : c.tplLen - 1 < (x.drop i).length := by rw [List.length_drop]; omega
  have hbit : x[c.tplLen - 1 + i] = (x.drop i)[c.tplLen - 1] := by simp only [List.getElem_drop, Nat.add_comm]
  rw [slipWindow, hbit, List.take_append_getElem, Nat.sub_add_cancel hpos]

/-- The slip drops the oldest bit of a full window. -/
theorem drop_full_slipWindow (c : Config) (x : List Bool) (i : Nat) :
    ((x.drop i).take c.tplLen).drop 1 = slipWindow c x (i + 1) := by
  rw [List.drop_take, List.drop_drop, slipWindow]

/-- The state the slip search begins with, its event list empty, is one of the search. -/
theorem slipped_self (hev : s.events = []) : slipped s s.win s.input s.thrRel s.wires = s := by
  rw [slipped, ← hev]

section Search

variable {n : Template} {u : List Bool} (hv : s.cfg.valid = true) (href : ReferenceTemplates s.cfg) (hrom : s.rom = templateRom s.cfg)
  (hrun : s.halted = false) (hseen : s.resetSeen = true) (hp : s.phase = .acquiringFrame) (hlook : s.looking = false)
  (hn : n = .one ∨ n = .zero) (hev : s.events = []) (hwin : s.win = slipWindow s.cfg (symbolThen s.cfg n u) 0)
  (hin : s.input = ((symbolThen s.cfg n u).drop (s.cfg.tplLen - 1)).map bitInput ++ rest)
include hv href hrom hrun hseen hp hlook hn hev hwin hin

/-- As long as the window begins with a one of the symbol, each bit slips by one. -/
theorem run_slips {i : Nat} (hi : i ≤ s.cfg.act n * s.cfg.spb) (hiu : i ≤ 1 + u.length) : ∃ thr wi,
    Host.Core.run core i s = .next (slipped s (stripZeros (slipWindow s.cfg (symbolThen s.cfg n u) i))
      (((symbolThen s.cfg n u).drop (s.cfg.tplLen - 1 + i)).map bitInput ++ rest) thr wi) := by
  obtain ⟨hpos, hact⟩ := act_data_range hv href hn
  have ha : s.cfg.act n * s.cfg.spb ≤ s.cfg.tplLen := by omega
  have hlong := tplLen_ge hv
  have hxlen : (symbolThen s.cfg n u).length = s.cfg.tplLen + u.length := by
    rw [symbolThen, List.length_append, templateBits_length]
  induction i with
  | zero =>
    refine ⟨s.thrRel, s.wires, ?_⟩
    rw [stripZeros_slipWindow ha hpos, ← hwin, Nat.add_zero, ← hin, slipped_self hev]
    rfl
  | succ i ih =>
    obtain ⟨thr, wi, hprefix⟩ := ih (by omega) (by omega)
    have hlt : s.cfg.tplLen - 1 + i < (symbolThen s.cfg n u).length := by omega
    rw [stripZeros_slipWindow ha hi, List.drop_eq_getElem_cons hlt] at hprefix
    have hfull := slipWindow_append (by omega) hlt
    have hlen : (slipWindow s.cfg (symbolThen s.cfg n u) i).length + 1 = s.cfg.tplLen := by
      rw [slipWindow, List.length_take, List.length_drop]
      omega
    have hstep : ∃ thr' wi', step (slipped s (slipWindow s.cfg (symbolThen s.cfg n u) i)
          (bitInput (symbolThen s.cfg n u)[s.cfg.tplLen - 1 + i] ::
            (((symbolThen s.cfg n u).drop (s.cfg.tplLen - 1 + i + 1)).map bitInput ++ rest)) thr wi) =
        .next (slipped s (stripZeros (slipWindow s.cfg (symbolThen s.cfg n u) (i + 1)))
          (((symbolThen s.cfg n u).drop (s.cfg.tplLen - 1 + i + 1)).map bitInput ++ rest) thr' wi') := by
      rw [← drop_full_slipWindow, ← hfull]
      refine step_slips (s := slipped s (slipWindow s.cfg (symbolThen s.cfg n u) i) _ thr wi) hrom hrun hseen hp rfl hlen
        (List.ne_nil_of_length_pos (by show 0 < (slipWindow _ _ _).length; omega)) ?_ (fun h => absurd (hlook.symm.trans h) (by decide))
      exact (congrArg (matchBits s.cfg · _) hfull).trans (slipping_not_ref hv href hn (by omega) (by omega))
    obtain ⟨thr', wi', hstep⟩ := hstep
    exact ⟨thr', wi', (run_add hprefix 1).trans ((run_one _).trans hstep)⟩

/-- While a one of the symbol is left when all bits have come, the window still begins with the symbol. -/
theorem run_within_symbol (hlt : 1 + u.length < s.cfg.act n * s.cfg.spb) : ∃ thr wi, Host.Core.run core (1 + u.length) s = .next
    (slipped s (List.replicate (s.cfg.act n * s.cfg.spb - (1 + u.length)) true ++
      List.replicate (s.cfg.tplLen - s.cfg.act n * s.cfg.spb) false ++ u) rest thr wi) := by
  obtain ⟨-, hact⟩ := act_data_range hv href hn
  have hlong := tplLen_ge hv
  have ha : s.cfg.act n * s.cfg.spb ≤ s.cfg.tplLen := by omega
  have hall : (symbolThen s.cfg n u).drop (s.cfg.tplLen - 1 + (1 + u.length)) = [] := by
    refine List.drop_of_length_le ?_
    rw [symbolThen, List.length_append, templateBits_length]
    omega
  obtain ⟨thr, wi, hslip⟩ := run_slips hv href hrom hrun hseen hp hlook hn hev hwin hin hlt.le le_rfl
  rw [stripZeros_slipWindow ha hlt, slipWindow_end ha hlt.le, hall] at hslip
  exact ⟨thr, wi, hslip⟩

/-- Once the symbol's ones have gone, the window is what came after the symbol, and the bits left only fill it. -/
theorem run_past_symbol (hu : windowCanonical u) (hulen : u.length < s.cfg.tplLen)
    (hge : s.cfg.act n * s.cfg.spb ≤ 1 + u.length) : ∃ thr wi,
    Host.Core.run core (1 + u.length) s = .next (slipped s u rest thr wi) := by
  obtain ⟨hpos, hact⟩ := act_data_range hv href hn
  have hspb := spb_pos hv
  have ha : s.cfg.act n * s.cfg.spb ≤ s.cfg.tplLen := by omega
  obtain ⟨thr, wi, hslip⟩ := run_slips hv href hrom hrun hseen hp hlook hn hev hwin hin le_rfl hge
  rw [stripZeros_slipWindow_act ha hpos hu, ← List.drop_drop, symbolThen_drop_tplLen_pred ha (by omega)] at hslip
  obtain ⟨k, hk⟩ : ∃ k, s.cfg.act n * s.cfg.spb = k + 1 := Nat.exists_eq_succ_of_ne_zero hpos.ne'
  rw [hk, List.drop_succ_cons, Nat.add_sub_cancel] at hslip
  by_cases hend : u.drop k = []
  case pos =>
    have hle := List.drop_eq_nil_iff.1 hend
    have hlen : 1 + u.length = k + 1 := by omega
    rw [hend, List.take_of_length_le hle] at hslip
    exact ⟨thr, wi, hlen ▸ hslip⟩
  case neg =>
    have hpush : pushAll (u.drop k) (u.take k) = u := by
      rw [pushAll_eq_append (by rwa [List.take_append_drop]), List.take_append_drop]
    have hfill := run_filling (s := slipped s (u.take k) ((u.drop k).map bitInput ++ rest) thr wi) (bs := u.drop k)
      (rest := rest) hrun hseen hend rfl (by show (pushAll (u.drop k) (u.take k)).length < s.cfg.tplLen; rwa [hpush])
    have hwindow : pushAll (u.drop k) (slipped s (u.take k) ((u.drop k).map bitInput ++ rest) thr wi).win = u := hpush
    have hlen : 1 + u.length = k + 1 + (u.drop k).length := by
      rw [List.length_drop]
      omega
    rw [hlen, run_add hslip, hfill, hwindow]
    exact ⟨thr, { wi with adapt := false }, rfl⟩

end Search

/-- `CBIT` does not look at the events of the step before. -/
theorem run_beginStep (hin : s.input = bitInput b :: rest) (hseen : s.resetSeen = true) (n : Nat) :
    Host.Core.run core (1 + n) s = Host.Core.run core (1 + n) (beginStep s) := by
  rw [Nat.add_comm, run_succ, run_succ, step_of_bit hin hseen, step_of_bit (s := beginStep s) hin hseen]
  rfl

/-- Settles O58: the symbol's last bit is a zero, and the bits that follow come while the window begins with the symbol or after. -/
theorem slipSearchRealigns : Obligations.SlipSearchRealigns := by
  intro s n u rest hn hv href hrom hrun hseen hp hlook hwin hu hulen hin a
  obtain ⟨-, hact⟩ := act_data_range hv href hn
  have hspb := spb_pos hv
  have hstart : s.win = slipWindow s.cfg (symbolThen s.cfg n u) 0 := by
    rw [hwin, slipWindow, List.drop_zero, symbolThen, List.take_append_of_le_length (by rw [templateBits_length]; omega)]
  have hbits : s.input = ((symbolThen s.cfg n u).drop (s.cfg.tplLen - 1)).map bitInput ++ rest := by
    rw [symbolThen_drop_tplLen_pred (by omega) (by omega), hin]
    rfl
  rw [run_beginStep hin hseen]
  rcases Nat.lt_or_ge (1 + u.length) a with hlt | hge
  · obtain ⟨thr, wi, hend⟩ := run_within_symbol (s := beginStep s) hv href hrom hrun hseen hp hlook hn rfl hstart hbits hlt
    exact ⟨_, hend, (if_pos hlt).symm, hp, hlook, rfl, rfl, rfl, rfl, rfl⟩
  · have hcanon : windowCanonical u := by
      rcases hu with rfl | hu
      · exact windowCanonical_nil
      · simp [windowCanonical, hu]
    obtain ⟨thr, wi, hend⟩ := run_past_symbol (s := beginStep s) hv href hrom hrun hseen hp hlook hn rfl hstart hbits hcanon hulen hge
    exact ⟨_, hend, (if_neg hge.not_gt).symm, hp, hlook, rfl, rfl, rfl, rfl, rfl⟩

end Sys2Proof.Machine
end

section
/-! A perfect frame, symbol by symbol (44_window_controller.md sections 2 to 5): each symbol's template is one classification, and the
frame's layout says which. -/

namespace Sys2Proof.Machine

variable {s t : State} {y : Symbol} {rest : List PortInput}

/-- The source's configuration: its block counts and tolerance, and the groups of its frame (00_scope.md R7). -/
structure SourceConfig (c : Config) : Prop where
  valid : c.valid = true
  templates : ReferenceTemplates c
  dbrFirst : c.dbrFirst = 8
  dbrNext : c.dbrNext = 9
  prInit : c.prInit = 5

theorem sourceConfig_reference : SourceConfig Config.reference :=
  ⟨reference_valid, ⟨rfl, rfl, rfl, rfl, rfl, rfl, rfl, rfl, rfl, rfl⟩, rfl, rfl, rfl⟩

/-! ## One symbol -/

/-- At the source's block counts a template begins with a 1. -/
theorem templateBits_head? {c : Config} (hv : c.valid = true) (href : ReferenceTemplates c) (n : Template) :
    (templateBits c n).head? = some true := by
  have hspb := spb_pos hv
  have hlong := tplLen_ge hv
  have hact : 0 < c.act n := by
    cases n with
    | ref => rw [href.act_ref]; decide
    | pos => rw [href.act_pos]; decide
    | one => rw [href.act_one]; decide
    | zero => rw [href.act_zero]; decide
  rw [List.head?_eq_getElem?, templateBits_getElem? c n (by omega), decide_eq_true (Nat.mul_pos hact hspb)]

/-- The bits of one symbol run the phase's operation on its template, once. -/
theorem run_symbol {n : Template} (hc : SourceConfig s.cfg) (hrun : s.halted = false) (hseen : s.resetSeen = true) (hwin : s.win = [])
    (hin : s.input = templateInputs s.cfg n ++ rest)
    (hop : exec (phaseOp s.phase) (atFullWindow s (templateBits s.cfg n) rest) = .next t) :
    Host.Core.run core s.cfg.tplLen s = .next (adaptThreshold (ringAverage t) t) := by
  rw [run_window hrun hseen hwin (templateBits_length _ n) (templateBits_head? hc.valid hc.templates n) hin hc.valid, hop]
  rfl

/-- The window of a symbol's template matches that template. -/
theorem windowMatches_own_template (hrom : s.rom = templateRom s.cfg) (n : Template) :
    windowMatches (atFullWindow s (templateBits s.cfg n) rest) n = true := by
  rw [windowMatches_eq_matchBits (s := atFullWindow s _ rest) hrom]
  exact matchBits_self _ _

/-- The window of the ZERO template does not match ONE (43_templates_correlator.md R183 (c)). -/
theorem windowMatches_one_of_zero (hv : s.cfg.valid = true) (href : ReferenceTemplates s.cfg) (hrom : s.rom = templateRom s.cfg) :
    windowMatches (atFullWindow s (templateBits s.cfg .zero) rest) .one = false := by
  rw [windowMatches_eq_matchBits (s := atFullWindow s _ rest) hrom]
  obtain ⟨-, hnone⟩ := noWindowMatchesTwoTemplates s.cfg hv href
  obtain ⟨-, -, honeZero⟩ := hnone (templateBits s.cfg .zero) (templateBits_length _ _)
  exact Bool.eq_false_iff.2 fun hone => honeZero ⟨hone, matchBits_self _ _⟩

/-- `DATA` classifies the window of a data symbol's template as that symbol. -/
theorem data_template_classified (hv : s.cfg.valid = true) (href : ReferenceTemplates s.cfg) (hrom : s.rom = templateRom s.cfg)
    (hy : y = .one ∨ y = .zero) :
    let u := atFullWindow s (templateBits s.cfg (symbolTemplate y)) rest
    windowWithinTolerance u .one = true ∧ y = .one ∨
      windowWithinTolerance u .one = false ∧ windowWithinTolerance u .zero = true ∧ y = .zero := by
  intro u
  have hcount (t : Template) : windowMatches u t = windowWithinTolerance u t := windowMatches_eq hrom (templateBits_length _ _)
  rw [← hcount, ← hcount]
  rcases hy with rfl | rfl
  · exact .inl ⟨windowMatches_own_template hrom .one, rfl⟩
  · exact .inr ⟨windowMatches_one_of_zero hv href hrom, windowMatches_own_template hrom .zero, rfl⟩

/-- `s` with the symbol `y` taken into the frame, the counters and the phase as given. -/
def withSymbol (s : State) (y : Symbol) (rest : List PortInput) (d p : Nat) (ph : Phase) : State :=
  { atFullWindow s [] rest with frame := s.frame ++ [y], events := [.sym y], dbr := d, pr := p, phase := ph }

/-- `s` with the frame complete at the symbol `y`. -/
def withFrameDone (s : State) (y : Symbol) (rest : List PortInput) : State :=
  { atFullWindow s [] rest with
    frame := [], events := [.sym y, .time (decodeFrame s.cfg (s.frame ++ [y]))], dbr := 0, phase := .acquiringFrame }

/-- The frame has room for 59 symbols. -/
theorem frame_room (hc : SourceConfig s.cfg) (hlen : s.frame.length < 59) : s.frame.length < s.cfg.frameCap := by
  obtain ⟨-, -, -, -, -, -, -, -, -, hcap⟩ := config_valid_iff.1 hc.valid
  rw [hc.prInit, Config.frameLenAfter, hc.dbrFirst, hc.dbrNext] at hcap
  omega

section Symbols

variable (hc : SourceConfig s.cfg) (hs : MachineInv s)
include hc hs

/-- How many symbols the frame holds in `AwaitingData`, by the counters. -/
theorem frame_length_of_awaitingData (hp : s.phase = .awaitingData) :
    1 ≤ s.dbr ∧ s.dbr ≤ 9 ∧ s.pr ≤ 5 ∧ s.looking = false ∧ s.frame.length + s.dbr = 9 + (5 - s.pr) * 10 := by
  have hctl := hs.controller
  simp only [ControllerInv, hp] at hctl
  obtain ⟨hdbr, hmax, hpr, hlook, hlen⟩ := hctl
  rw [hc.prInit] at hpr hmax
  rw [hc.dbrFirst, hc.dbrNext] at hmax
  rw [hc.prInit, Config.frameLenAfter, hc.dbrFirst, hc.dbrNext] at hlen
  exact ⟨hdbr, hmax.trans (by split <;> omega), hpr, hlook, by omega⟩

/-- How many symbols the frame holds in `AwaitingPosition`, by the markers still to come. -/
theorem frame_length_of_awaitingPosition (hp : s.phase = .awaitingPosition) :
    1 ≤ s.pr ∧ s.pr ≤ 5 ∧ s.frame.length = 9 + (5 - s.pr) * 10 := by
  have hctl := hs.controller
  simp only [ControllerInv, hp] at hctl
  obtain ⟨-, hpr, hle, -, hlen⟩ := hctl
  rw [hc.prInit] at hle
  rw [hc.prInit, Config.frameLenAfter, hc.dbrFirst, hc.dbrNext] at hlen
  exact ⟨hpr, hle, by omega⟩

/-- A data symbol before the frame's last one is taken, and the frame goes on. -/
theorem exec_data_goes_on (hp : s.phase = .awaitingData) (hy : y = .one ∨ y = .zero) (hlen : s.frame.length < 58) : ∃ d p ph,
    ph ≠ .acquiringFrame ∧
      exec .data (atFullWindow s (templateBits s.cfg (symbolTemplate y)) rest) = .next (withSymbol s y rest d p ph) := by
  obtain ⟨hdbr, hmax, hpr, -, hcount⟩ := frame_length_of_awaitingData hc hs hp
  have hroom := frame_room hc (by omega)
  obtain ⟨hstays, hgroup, -⟩ := (dataClassifiesOneThenZero (atFullWindow s _ rest) hs.config.rom hp (templateBits_length _ _)
    hroom).1 y (data_template_classified hc.valid hc.templates hs.config.rom hy)
  rcases Nat.lt_or_ge 1 s.dbr with hd | hd
  · exact ⟨s.dbr - 1, s.pr, s.phase, by simp [hp], hstays hd⟩
  · exact ⟨0, s.pr, .awaitingPosition, by decide, hgroup (Nat.le_antisymm hd hdbr) (by show 0 < s.pr; omega)⟩

/-- The frame's last symbol completes it. -/
theorem exec_data_completes (hp : s.phase = .awaitingData) (hy : y = .one ∨ y = .zero) (hlen : s.frame.length = 58) : s.pr = 0 ∧
    exec .data (atFullWindow s (templateBits s.cfg (symbolTemplate y)) rest) = .next (withFrameDone s y rest) := by
  obtain ⟨hdbr, hmax, hpr, -, hcount⟩ := frame_length_of_awaitingData hc hs hp
  have hroom := frame_room hc (by omega)
  obtain ⟨-, -, hdone⟩ := (dataClassifiesOneThenZero (atFullWindow s _ rest) hs.config.rom hp (templateBits_length _ _)
    hroom).1 y (data_template_classified hc.valid hc.templates hs.config.rom hy)
  have hpr0 : s.pr = 0 := by omega
  have hd1 : s.dbr = 1 := by omega
  exact ⟨hpr0, hdone hd1 hpr0⟩

/-- A marker is taken where the frame has its slot. -/
theorem exec_pos_goes_on (hp : s.phase = .awaitingPosition) (hlen : s.frame.length < 59) :
    exec .pos (atFullWindow s (templateBits s.cfg .pos) rest) =
      .next (withSymbol s .pos rest s.cfg.dbrNext (s.pr - 1) .awaitingData) := by
  obtain ⟨hpr, -⟩ := frame_length_of_awaitingPosition hc hs hp
  exact exec_pos_of_marker (s := atFullWindow s _ rest) (windowMatches_own_template hs.config.rom .pos) (frame_room hc hlen) hpr

end Symbols

/-! ## The frame so far -/

/-- `t` has taken the first `k` symbols of the frame `f`, presented to `s`, and waits for the next. -/
structure MidFrame (s : State) (f : List Symbol) (rest : List PortInput) (k : Nat) (t : State) : Prop where
  cfg : t.cfg = s.cfg
  inv : MachineInv t
  running : t.halted = false
  seen : t.resetSeen = true
  phase : t.phase ≠ .acquiringFrame
  win : t.win = []
  frame : t.frame = f.take k
  input : t.input = symbolInputs s.cfg (f.drop k) ++ rest

section Frame

variable {f : List Symbol} {k : Nat} (hc : SourceConfig s.cfg) (hlen : f.length = 59)
  (hlayout : ∀ i y, f[i]? = some y → frameSlotOk s.cfg i y)

theorem symbolInputs_cons (c : Config) (y : Symbol) (ys : List Symbol) :
    symbolInputs c (y :: ys) = templateInputs c (symbolTemplate y) ++ symbolInputs c ys :=
  List.flatMap_cons

theorem MidFrame.frame_length (h : MidFrame s f rest k t) (hk : k ≤ f.length) : t.frame.length = k := by
  rw [h.frame, List.length_take, Nat.min_eq_left hk]

/-- The next symbol's bits are presented next. -/
theorem MidFrame.input_next (h : MidFrame s f rest k t) (hk : k < f.length) :
    t.input = templateInputs t.cfg (symbolTemplate f[k]) ++ (symbolInputs s.cfg (f.drop (k + 1)) ++ rest) := by
  rw [h.input, h.cfg, List.drop_eq_getElem_cons hk, symbolInputs_cons, List.append_assoc]

include hlayout in
/-- What the next symbol of the frame may be, by the phase. -/
theorem MidFrame.next_symbol (h : MidFrame s f rest k t) (hk : k < f.length) :
    (t.phase = .awaitingData ∧ (f[k] = .one ∨ f[k] = .zero)) ∨ (t.phase = .awaitingPosition ∧ f[k] = .pos) := by
  have hslot : frameSlotOk t.cfg t.frame.length f[k] := by
    rw [h.cfg, h.frame_length hk.le]
    exact hlayout k _ (List.getElem?_eq_getElem _)
  cases hp : t.phase with
  | acquiringFrame => exact absurd hp h.phase
  | awaitingData => exact .inl ⟨rfl, (frameSlotOk_of_awaitingData h.inv.controller hp).1 hslot⟩
  | awaitingPosition => exact .inr ⟨rfl, (frameSlotOk_of_awaitingPosition h.inv.controller hp).1 hslot⟩

include hc hlen hlayout

/-- The classification of the next symbol, before the frame's last. -/
theorem MidFrame.exec_next (h : MidFrame s f rest k t) (hk : k < 58) (rest' : List PortInput) : ∃ d p ph, ph ≠ .acquiringFrame ∧
    exec (phaseOp t.phase) (atFullWindow t (templateBits t.cfg (symbolTemplate f[k])) rest') =
      .next (withSymbol t f[k] rest' d p ph) := by
  have hcfg : SourceConfig t.cfg := h.cfg ▸ hc
  have hframe := h.frame_length (by omega)
  obtain ⟨hp, hy⟩ | ⟨hp, hy⟩ := h.next_symbol hlayout (by omega)
  · obtain ⟨d, p, ph, hne, hop⟩ := exec_data_goes_on (rest := rest') hcfg h.inv hp hy (by omega)
    exact ⟨d, p, ph, hne, by rw [hp]; exact hop⟩
  · rw [hp, hy]
    exact ⟨_, _, .awaitingData, by decide, exec_pos_goes_on hcfg h.inv hp (by omega)⟩

/-- The next symbol of the frame, before its last, is taken. -/
theorem MidFrame.next (h : MidFrame s f rest k t) (hk : k < 58) : ∃ t', Host.Core.run core s.cfg.tplLen t = .next t' ∧
    MidFrame s f rest (k + 1) t' := by
  have hkf : k < f.length := by omega
  obtain ⟨d, p, ph, hne, hop⟩ := h.exec_next hc hlen hlayout hk (symbolInputs s.cfg (f.drop (k + 1)) ++ rest)
  have hrun := run_symbol (h.cfg ▸ hc) h.running h.seen h.win (h.input_next hkf) hop
  refine ⟨_, (congrArg (fun c => Host.Core.run core c.tplLen t) h.cfg.symm).trans hrun, ?_⟩
  exact {
    cfg := h.cfg
    inv := run_keeps_inv h.inv hrun
    running := h.running
    seen := h.seen
    phase := hne
    win := rfl
    frame := by
      show t.frame ++ [f[k]] = f.take (k + 1)
      rw [h.frame, List.take_append_getElem]
    input := rfl }

/-- The first symbol of the frame starts it. -/
theorem midFrame_start (hs : MachineInv s) (hrun : s.halted = false) (hseen : s.resetSeen = true) (hp : s.phase = .acquiringFrame)
    (hwin : s.win = []) (hin : s.input = symbolInputs s.cfg f ++ rest) :
    ∃ t, Host.Core.run core s.cfg.tplLen s = .next t ∧ MidFrame s f rest 1 t := by
  have hfirst : f = .ref :: f.drop 1 := by
    cases f with
    | nil => cases hlen
    | cons y ys =>
      have hy := hlayout 0 y rfl
      rw [frameSlotOk, if_pos rfl] at hy
      rw [hy]
      rfl
  rw [hfirst, symbolInputs_cons, List.append_assoc] at hin
  have hop := acquire_frameStart (s := atFullWindow s (templateBits s.cfg .ref) (symbolInputs s.cfg (f.drop 1) ++ rest))
    (windowMatches_own_template hs.config.rom .ref) (frameCap_pos hc.valid)
  have hrun' := run_symbol hc hrun hseen hwin hin (by rw [hp]; exact hop)
  refine ⟨_, hrun', ?_⟩
  exact {
    cfg := rfl
    inv := run_keeps_inv hs hrun'
    running := hrun
    seen := hseen
    phase := by show Phase.awaitingData ≠ .acquiringFrame; decide
    win := rfl
    frame := by
      rw [hfirst]
      rfl
    input := rfl }

/-- All symbols of the frame but the last are taken, one after another. -/
theorem run_midFrame (hs : MachineInv s) (hrun : s.halted = false) (hseen : s.resetSeen = true) (hp : s.phase = .acquiringFrame)
    (hwin : s.win = []) (hin : s.input = symbolInputs s.cfg f ++ rest) (hk : k < 58) :
    ∃ t, Host.Core.run core ((k + 1) * s.cfg.tplLen) s = .next t ∧ MidFrame s f rest (k + 1) t := by
  induction k with
  | zero =>
    rw [Nat.zero_add, Nat.one_mul]
    exact midFrame_start hc hlen hlayout hs hrun hseen hp hwin hin
  | succ k ih =>
    obtain ⟨t, ht, hmid⟩ := ih (by omega)
    obtain ⟨t', ht', hmid'⟩ := hmid.next hc hlen hlayout hk
    rw [Nat.succ_mul, run_add ht]
    exact ⟨t', ht', hmid'⟩

/-- The last symbol of the frame completes it. -/
theorem MidFrame.completes (h : MidFrame s f rest 58 t) : ∃ t', Host.Core.run core s.cfg.tplLen t = .next t' ∧
    t'.events = [.sym f[58], .time (decodeFrame s.cfg f)] ∧ t'.phase = .acquiringFrame ∧ t'.win = [] ∧ t'.frame = [] ∧ t'.dbr = 0 ∧
    t'.pr = 0 ∧ t'.looking = false ∧ t'.input = rest := by
  have hcfg : SourceConfig t.cfg := h.cfg ▸ hc
  have hframe := h.frame_length (by omega)
  obtain ⟨hp, hy⟩ | ⟨hp, -⟩ := h.next_symbol hlayout (by omega)
  · obtain ⟨-, -, -, hlook, -⟩ := frame_length_of_awaitingData hcfg h.inv hp
    obtain ⟨hpr, hop⟩ := exec_data_completes (rest := symbolInputs s.cfg (f.drop 59) ++ rest) hcfg h.inv hp hy hframe
    have hrun := run_symbol hcfg h.running h.seen h.win (h.input_next (by omega)) (by rw [hp]; exact hop)
    have hwhole : t.frame ++ [f[58]] = f := by
      rw [h.frame, List.take_append_getElem, List.take_of_length_le hlen.le]
    have hrun' := (congrArg (fun c => Host.Core.run core c.tplLen t) h.cfg.symm).trans hrun
    refine ⟨_, hrun', ?_, rfl, rfl, rfl, rfl, hpr, hlook, ?_⟩
    · show [Event.sym f[58], .time (decodeFrame t.cfg (t.frame ++ [f[58]]))] = _
      rw [hwhole, h.cfg]
    · show symbolInputs s.cfg (f.drop 59) ++ rest = rest
      rw [List.drop_of_length_le hlen.le]
      rfl
  · have hcount := frame_length_of_awaitingPosition hcfg h.inv hp
    omega

end Frame

/-- Settles O59: the first symbol starts the frame, 57 are taken, and the last completes it. -/
theorem everyPerfectFrameIsDecoded : Obligations.EveryPerfectFrameIsDecoded := by
  intro s f rest hs hrun hseen hp hwin href hfirst hnext hinit hlen hlayout hin
  have hc : SourceConfig s.cfg := ⟨hs.config.valid, href, hfirst, hnext, hinit⟩
  obtain ⟨t, ht, hmid⟩ := run_midFrame (k := 57) hc hlen hlayout hs hrun hseen hp hwin hin (by decide)
  obtain ⟨t', ht', hdone⟩ := hmid.completes hc hlen hlayout
  refine ⟨t', f[58], ?_, ?_, hdone⟩
  · rw [show 59 * s.cfg.tplLen = (57 + 1) * s.cfg.tplLen + s.cfg.tplLen from Nat.succ_mul 58 _, run_add ht]
    exact ht'
  · have hlast : f.length - 1 = 58 := by omega
    rw [List.getLast?_eq_getElem?, hlast]
    exact List.getElem?_eq_getElem _

end Sys2Proof.Machine
end
